-- ==== Sys2Proof/Word.lean ====
section
/-! DEFINITION. Bytes, 32-bit words and the four-byte flash address (00_scope.md R9, 10_state.md R21). -/

namespace Sys2Proof

/-- A byte: an unsigned 8-bit value (R9). -/
abbrev Byte := BitVec 8

/-- A 32-bit register value (R9, R29, R32). -/
abbrev Word32 := BitVec 32

/-- A FlashAddress: four bytes, `a0` the most significant (R21). -/
structure FlashAddress where
  a0 : Byte
  a1 : Byte
  a2 : Byte
  a3 : Byte
deriving DecidableEq, Repr

end Sys2Proof
end

