-- ==== Sys2Proof/Config.lean ====
section
/-! DEFINITION. The parameters of an instance (00_scope.md R5 to R8) and the values the spec leaves open.
The record `Params` stands in the state, where no operation writes it, so that a statement about every
state is a statement about every parameter record (92_eei_decisions.md D1, D2, D4). -/

namespace Sys2Proof

/-- The record `WIRE`: the thirteen wire parameters (R6). -/
structure Wire where
  ack : Byte
  nack : Byte
  sync : Byte
  opcGet : Byte
  opcGetVersion : Byte
  opcGetId : Byte
  opcRead : Byte
  opcWrite : Byte
  opcErase : Byte
  opcExtErase : Byte
  eraseAll : Byte × Byte
  extEraseAll : Byte × Byte × Byte
  readFullPage : Byte × Byte
deriving DecidableEq, Repr

/-- The parameters of an instance: `WIRE` (R6), `BASE` (R7) and `VERIFY_EN` (R8). -/
structure Params where
  wire : Wire
  base : Word32
  verifyEn : Bool
deriving DecidableEq, Repr

/-- The default column of R6. PRESUMED: the spec marks every value of it as general knowledge (log 1). -/
def Wire.standard : Wire where
  ack := 0x79
  nack := 0x1F
  sync := 0x7F
  opcGet := 0x00
  opcGetVersion := 0x01
  opcGetId := 0x02
  opcRead := 0x11
  opcWrite := 0x31
  opcErase := 0x43
  opcExtErase := 0x44
  eraseAll := (0xFF, 0x00)
  extEraseAll := (0xFF, 0xFF, 0x00)
  readFullPage := (0xFF, 0x00)

/-- The defaults of R6, R7 and R8. PRESUMED for `BASE` (log 2). -/
def Params.standard : Params where
  wire := Wire.standard
  base := 0x08000000
  verifyEn := true

/-- The three times of R8, as the traces of the spec write them: symbols. -/
inductive Duration where
  /-- `T_SERIAL`, the one timeout of every acknowledgment wait. -/
  | serial
  /-- `T_SETTLE`, how long the reset line is held low. -/
  | settle
  /-- `T_POLL`, the interval of the receive poll. -/
  | poll
deriving DecidableEq, Repr

/-- `T_SERIAL` less one tick, in ticks of unstated length (R8: the source gives no value; log 3). -/
opaque Config.serialTicksPred : Nat

/-- `T_SETTLE` in ticks (R8; log 3). -/
opaque Config.settleTicks : Nat

/-- `T_POLL` in ticks (R8; log 3). -/
opaque Config.pollTicks : Nat

/-- The ticks a duration stands for; R8 requires `T_SERIAL >= 1`. No rule depends on a value (R345). -/
def Config.ticks : Duration → Nat
  | .serial => Config.serialTicksPred + 1
  | .settle => Config.settleTicks
  | .poll => Config.pollTicks

/-- `PAGE`, the page size (R5). -/
abbrev pageSize : Nat := 256

end Sys2Proof
end

