-- ==== Sys2Proof/Syntax.lean ====
section
/-! DEFINITION. The instructions: one constructor for each row of spec/opcode_table.json, in its order.
The fourteen request frames come first; the sixteen operations without an encoding follow (30_encoding.md
R90, R99, R105). A frame with computed fields carries its operand: the address of format A, the payload of
format D; the sequencer supplies the registers ADDR and PBUF there (log 11). -/

namespace Sys2Proof

/-- The fourteen command steps (10_state.md R28). -/
inductive StepId where
  | sync | get | getVersion | getId | eraseCmd | eraseParam | extEraseCmd | extEraseParam
  | writeSetup | writeAddress | writePayload
  | readSetup | readAddress | readLength
deriving DecidableEq, Repr

/-- The instruction set, one constructor per row of the opcode table. -/
inductive Instr where
  /-- `Sync`, R200. -/
  | sync
  /-- `Get`, R201. -/
  | get
  /-- `GetVersion`, R202. -/
  | getVersion
  /-- `GetId`, R203. -/
  | getId
  /-- `EraseCmd`, R204. -/
  | eraseCmd
  /-- `EraseParam`, R205. -/
  | eraseParam
  /-- `ExtEraseCmd`, R206. -/
  | extEraseCmd
  /-- `ExtEraseParam`, R207. -/
  | extEraseParam
  /-- `WriteSetup`, R210. -/
  | writeSetup
  /-- `WriteAddress`, R211; the operand is the address the frame carries. -/
  | writeAddress (address : FlashAddress)
  /-- `WritePayload`, R212; the operand is the payload the frame carries. -/
  | writePayload (payload : List Byte)
  /-- `ReadSetup`, R220. -/
  | readSetup
  /-- `ReadAddress`, R221; the operand is the address the frame carries. -/
  | readAddress (address : FlashAddress)
  /-- `ReadLength`, R225. -/
  | readLength
  /-- `buildCommand(opcode)`, R132. -/
  | buildCommand (opcode : Byte)
  /-- `buildAddressFrame(address)`, R133. -/
  | buildAddressFrame (address : FlashAddress)
  /-- `buildDataBlockFrame(payload)`, R134. -/
  | buildDataBlockFrame (payload : List Byte)
  /-- `incrementAddress(address)`, R136. -/
  | incrementAddress (address : FlashAddress)
  /-- `Send(bytes)`, R150. -/
  | send (bytes : List Byte)
  /-- `WaitForBytes(minCount, timeoutTicks)`, R151. -/
  | waitForBytes (minCount : Nat) (timeout : Duration)
  /-- `ReadBytes(count)`, R152. -/
  | readBytes (count : Nat)
  /-- `Exchange(frame, n, step)`, R153. -/
  | exchange (frame : List Byte) (count : Nat) (step : StepId)
  /-- `enter`, R172. -/
  | enter
  /-- `openSession`, R178. -/
  | openSession
  /-- `closeSession`, R182. -/
  | closeSession
  /-- `writePage`, R216. -/
  | writePage
  /-- `readPage`, R226. -/
  | readPage
  /-- `writeImage`, R240. -/
  | writeImage
  /-- `verifyImage`, R247. -/
  | verifyImage
  /-- `flashAndVerify`, R258. -/
  | flashAndVerify
deriving DecidableEq, Repr

/-- The step a request frame belongs to; the operations without an encoding have none. -/
def Instr.stepId : Instr → Option StepId
  | .sync => some .sync
  | .get => some .get
  | .getVersion => some .getVersion
  | .getId => some .getId
  | .eraseCmd => some .eraseCmd
  | .eraseParam => some .eraseParam
  | .extEraseCmd => some .extEraseCmd
  | .extEraseParam => some .extEraseParam
  | .writeSetup => some .writeSetup
  | .writeAddress _ => some .writeAddress
  | .writePayload _ => some .writePayload
  | .readSetup => some .readSetup
  | .readAddress _ => some .readAddress
  | .readLength => some .readLength
  | .buildCommand _ => none
  | .buildAddressFrame _ => none
  | .buildDataBlockFrame _ => none
  | .incrementAddress _ => none
  | .send _ => none
  | .waitForBytes _ _ => none
  | .readBytes _ => none
  | .exchange _ _ _ => none
  | .enter => none
  | .openSession => none
  | .closeSession => none
  | .writePage => none
  | .readPage => none
  | .writeImage => none
  | .verifyImage => none
  | .flashAndVerify => none

end Sys2Proof
end

