-- ==== Sys2Proof/WellFormed.lean ====
section
/-! DEFINITION. Well-formed instructions and parameters: the operand ranges the rules state. -/

namespace Sys2Proof

/-- `1 <= n <= 257`, the counts of `WaitForBytes` and `ReadBytes` (R151, R152). -/
def countOk (n : Nat) : Bool := decide (1 ≤ n) && decide (n ≤ pageSize + 1)

/-- The operand ranges: a `WritePayload` frame carries exactly 256 bytes (R95, R212); `Send` takes a
non-empty sequence (R150); counts are 1 to 257 and the timeout is `T_SERIAL` in every use (R151, R152).
`buildDataBlockFrame` is defined on every payload, with `InvalidPayloadSize` outside 1 to 256 (R135). -/
def Instr.wf : Instr → Bool
  | .sync => true
  | .get => true
  | .getVersion => true
  | .getId => true
  | .eraseCmd => true
  | .eraseParam => true
  | .extEraseCmd => true
  | .extEraseParam => true
  | .writeSetup => true
  | .writeAddress _ => true
  | .writePayload payload => decide (payload.length = pageSize)
  | .readSetup => true
  | .readAddress _ => true
  | .readLength => true
  | .buildCommand _ => true
  | .buildAddressFrame _ => true
  | .buildDataBlockFrame _ => true
  | .incrementAddress _ => true
  | .send bytes => !bytes.isEmpty
  | .waitForBytes n timeout => countOk n && decide (timeout = .serial)
  | .readBytes n => countOk n
  | .exchange frame n _ => !frame.isEmpty && countOk n
  | .enter => true
  | .openSession => true
  | .closeSession => true
  | .writePage => true
  | .readPage => true
  | .writeImage => true
  | .verifyImage => true
  | .flashAndVerify => true

/-- The constraint on any `WIRE` record: `ACK != NACK` (R6). -/
def Wire.wf (w : Wire) : Bool := decide (w.ack ≠ w.nack)

end Sys2Proof
end

