-- ==== Sys2Proof/Machine/Codec.lean ====
section
/-! DEFINITION. The Frame Codec with its address unit (40_frame_codec.md R130 to R139): combinational
functions on byte sequences. -/

namespace Sys2Proof.Machine

/-- `xor_all`: the XOR of all elements, `0x00` for the empty sequence (R10, R131). -/
def xorAll (bs : List Byte) : Byte := bs.foldr (· ^^^ ·) 0

/-- `buildCommand`: format C, the opcode and its 8-bit complement (R132, R92). -/
def buildCommand (opcode : Byte) : List Byte := [opcode, opcode ^^^ 0xFF]

/-- The four bytes of an address, most significant first (R64, R98 b). -/
def addressBytes (a : FlashAddress) : List Byte := [a.a0, a.a1, a.a2, a.a3]

/-- `buildAddressFrame`: format A, the four address bytes and their XOR (R133, R94). -/
def buildAddressFrame (a : FlashAddress) : List Byte :=
  [a.a0, a.a1, a.a2, a.a3, a.a0 ^^^ a.a1 ^^^ a.a2 ^^^ a.a3]

/-- `buildDataBlockFrame`: format D, `[N-1] ++ payload ++ [xor_all]` for `1 <= N <= 256` (R134, R95);
`none` is the failure `InvalidPayloadSize` of R135, which returns no frame. -/
def buildDataBlockFrame (payload : List Byte) : Option (List Byte) :=
  if payload.length = 0 ∨ pageSize < payload.length then none
  else
    let covered := BitVec.ofNat 8 (payload.length - 1) :: payload
    some (covered ++ [xorAll covered])

/-- `incrementAddress`: adds 256 byte by byte, carrying from byte 2 to 1 to 0; the carry out of byte 0
is dropped and byte 3 never changes (R136). -/
def incrementAddress (a : FlashAddress) : FlashAddress :=
  let r2 := a.a2 + 1
  if r2 = 0 then
    let r1 := a.a1 + 1
    if r1 = 0 then ⟨a.a0 + 1, r1, r2, a.a3⟩
    else ⟨a.a0, r1, r2, a.a3⟩
  else ⟨a.a0, a.a1, r2, a.a3⟩

/-- `be32(A) = [A[31:24], A[23:16], A[15:8], A[7:0]]` (R10). -/
def be32 (v : Word32) : FlashAddress :=
  ⟨v.extractLsb' 24 8, v.extractLsb' 16 8, v.extractLsb' 8 8, v.extractLsb' 0 8⟩

/-- `val32`: the 32-bit value of an address (R10, R21). -/
def val32 (a : FlashAddress) : Word32 := a.a0 ++ a.a1 ++ a.a2 ++ a.a3

/-- `zeros(n)` (R10). -/
def zeros (n : Nat) : List Byte := List.replicate n 0

/-- The bytes of a parameter frame of two bytes (R93). -/
def pairBytes (p : Byte × Byte) : List Byte := [p.1, p.2]

/-- The bytes of a parameter frame of three bytes (R93). -/
def tripleBytes (p : Byte × Byte × Byte) : List Byte := [p.1, p.2.1, p.2.2]

/-- Well-formedness of a format C frame (R139). -/
def wellFormedCommand (f : List Byte) : Bool :=
  match f with
  | [a, b] => decide (a ^^^ b = 0xFF)
  | _ => false

/-- Well-formedness of a format A frame (R139). -/
def wellFormedAddress (f : List Byte) : Bool := decide (f.length = 5) && decide (xorAll f = 0)

/-- Well-formedness of a format D frame (R139). -/
def wellFormedDataBlock (f : List Byte) : Bool :=
  match f with
  | [] => false
  | n :: rest => decide (rest.length + 1 = n.toNat + 3) && decide (xorAll (n :: rest) = 0)

end Sys2Proof.Machine
end

