-- ==== Sys2Proof/Decode.lean ====
section
/-! DEFINITION. The decoder and encoder of request frames (30_encoding.md R90 to R102).
The engine itself only builds frames and never decodes one (R101); this decoder reads the frames of the
opcode table back. No frame names its own type, so a frame is read against the steps it may belong to
(R102): one step, the steps of a pass, or the whole table in its order (log 13, log 14). -/

namespace Sys2Proof

/-- Why a byte sequence is no frame of the steps it was read against. -/
inductive DecodeError where
  /-- No bytes at all. -/
  | empty
  /-- One byte that is not `SYNC` (R91). -/
  | notSync (b : Byte)
  /-- Two bytes whose second is not the complement of the first, and no parameter frame (R92, R93). -/
  | badComplement (b0 b1 : Byte)
  /-- A format C frame whose opcode none of the steps has (R100, R231). -/
  | unknownOpcode (op : Byte)
  /-- Three bytes that are not `EXTERASE_ALL` (R93). -/
  | unknownParameter
  /-- Five bytes whose last is not the XOR of the others, or whose format no step has (R94). -/
  | badAddressFrame
  /-- A data block that is not of a full page, or whose checksum is wrong (R95). -/
  | badDataBlock
  /-- A length that no request frame has (R102). -/
  | noSuchLength (n : Nat)
deriving DecidableEq, Repr

/-- The steps in the order of the table (R100). -/
def allSteps : List StepId :=
  [.sync, .get, .getVersion, .getId, .eraseCmd, .eraseParam, .extEraseCmd, .extEraseParam,
   .writeSetup, .writeAddress, .writePayload, .readSetup, .readAddress, .readLength]

/-- The operand of a format A frame, if its checksum is right (R94). -/
def readAddressFrame (bs : List Byte) : Option FlashAddress :=
  match bs with
  | [a0, a1, a2, a3, cs] => if cs = a0 ^^^ a1 ^^^ a2 ^^^ a3 then some ⟨a0, a1, a2, a3⟩ else none
  | _ => none

/-- The payload of a format D frame of a full page, if length byte and checksum are right (R95, R212). -/
def readPageFrame (bs : List Byte) : Option (List Byte) :=
  match bs with
  | [] => none
  | n :: rest =>
    if n = 0xFF ∧ rest.length = pageSize + 1 ∧ Machine.xorAll (n :: rest) = 0 then some (rest.take pageSize)
    else none

/-- The instruction a frame is, when it is read as the frame of the step `st` (R100). -/
def readStep (w : Wire) (st : StepId) (bs : List Byte) : Option Instr :=
  match st with
  | .sync => if bs = [w.sync] then some .sync else none
  | .get => if bs = Machine.buildCommand w.opcGet then some .get else none
  | .getVersion => if bs = Machine.buildCommand w.opcGetVersion then some .getVersion else none
  | .getId => if bs = Machine.buildCommand w.opcGetId then some .getId else none
  | .eraseCmd => if bs = Machine.buildCommand w.opcErase then some .eraseCmd else none
  | .eraseParam => if bs = Machine.pairBytes w.eraseAll then some .eraseParam else none
  | .extEraseCmd => if bs = Machine.buildCommand w.opcExtErase then some .extEraseCmd else none
  | .extEraseParam => if bs = Machine.tripleBytes w.extEraseAll then some .extEraseParam else none
  | .writeSetup => if bs = Machine.buildCommand w.opcWrite then some .writeSetup else none
  | .writeAddress => (readAddressFrame bs).map .writeAddress
  | .writePayload => (readPageFrame bs).map .writePayload
  | .readSetup => if bs = Machine.buildCommand w.opcRead then some .readSetup else none
  | .readAddress => (readAddressFrame bs).map .readAddress
  | .readLength => if bs = Machine.pairBytes w.readFullPage then some .readLength else none

/-- The name under which a byte sequence is rejected, by its length (R90 to R95). -/
def rejection (bs : List Byte) : DecodeError :=
  match bs with
  | [] => .empty
  | [b] => .notSync b
  | [b0, b1] => if b0 ^^^ b1 = 0xFF then .unknownOpcode b0 else .badComplement b0 b1
  | [_, _, _] => .unknownParameter
  | [_, _, _, _, _] => .badAddressFrame
  | b :: rest => if rest.length = b.toNat + 2 then .badDataBlock else .noSuchLength (rest.length + 1)

/-- Reads a frame against the steps it may belong to, in their order; total, rejecting by name. -/
def decode (w : Wire) (steps : List StepId) (bs : List Byte) : Except DecodeError Instr :=
  match steps.findSome? (fun st => readStep w st bs) with
  | some i => .ok i
  | none => .error (rejection bs)

/-- The frame of an instruction (R100); `none` for the operations without an encoding (R90, R105), and
for a `WritePayload` whose payload no data block can hold (R135). -/
def encode (w : Wire) : Instr → Option (List Byte)
  | .sync => some [w.sync]
  | .get => some (Machine.buildCommand w.opcGet)
  | .getVersion => some (Machine.buildCommand w.opcGetVersion)
  | .getId => some (Machine.buildCommand w.opcGetId)
  | .eraseCmd => some (Machine.buildCommand w.opcErase)
  | .eraseParam => some (Machine.pairBytes w.eraseAll)
  | .extEraseCmd => some (Machine.buildCommand w.opcExtErase)
  | .extEraseParam => some (Machine.tripleBytes w.extEraseAll)
  | .writeSetup => some (Machine.buildCommand w.opcWrite)
  | .writeAddress a => some (Machine.buildAddressFrame a)
  | .writePayload payload => Machine.buildDataBlockFrame payload
  | .readSetup => some (Machine.buildCommand w.opcRead)
  | .readAddress a => some (Machine.buildAddressFrame a)
  | .readLength => some (Machine.pairBytes w.readFullPage)
  | .buildCommand _ => none
  | .buildAddressFrame _ => none
  | .buildDataBlockFrame _ => none
  | .incrementAddress _ => none
  | .send _ => none
  | .waitForBytes _ _ => none
  | .readBytes _ => none
  | .exchange _ _ _ => none
  | .enter => none
  | .openSession => none
  | .closeSession => none
  | .writePage => none
  | .readPage => none
  | .writeImage => none
  | .verifyImage => none
  | .flashAndVerify => none

/-- The `k` bytes of a frame written as one number whose most significant byte is sent first (R99). -/
def frameBytes (k w : Nat) : List Byte :=
  match k with
  | 0 => []
  | k + 1 => BitVec.ofNat 8 (w / 2 ^ (8 * k)) :: frameBytes k w

/-- The instruction of a table word: the frame of `nbits / 8` bytes read against the whole table, with
the default `WIRE` record, whose values the table's rows show (R99; log 1, log 13). -/
def decodeTableWord (nbits w : Nat) : Option Instr :=
  match decode Wire.standard allSteps (frameBytes (nbits / 8) w) with
  | .ok i => some i
  | .error _ => none

end Sys2Proof
end

