-- ==== Sys2Proof/Machine/State.lean ====
section
/-! DEFINITION. The architectural state (10_state.md), its reset (R50) and the reasons a step can stop. -/

namespace Sys2Proof.Machine

/-- `SESS`, the session state (R26). -/
inductive Sess where
  | idle | modeAsserted | synced | ready | erasing | transferring | closing | faulted
deriving DecidableEq, Repr

/-- `PASS`, the part of the operation that is running (R27). -/
inductive Pass where
  | none | setup | write | verify
deriving DecidableEq, Repr

/-- `FAIL_REASON` (R31, R280). `sessionContractViolation` has a code and is never written (R288); the
reserved codes 6 and 7 have no value here (93 U7). -/
inductive FailReason where
  | none | timeout | protocolNack | invalidPayloadSize | sessionContractViolation | aborted
deriving DecidableEq, Repr

/-- The two control lines (R35, R170). -/
inductive Line where
  | rst | mode
deriving DecidableEq, Repr

/-- `SRC`: the image and the read position (R42). -/
structure Source where
  bytes : List Byte
  pos : Nat
deriving DecidableEq, Repr

/-- The result registers that `Done` carries (R260). -/
structure Result where
  resOk : Bool
  failReason : FailReason
  failPass : Pass
  failStep : Option StepId
  failPage : Word32
  wAtt : Word32
  wOk : Word32
  vAtt : Word32
  vOk : Word32
deriving DecidableEq, Repr

/-- The externally visible actions of the engine (00_scope.md R12). -/
inductive Event where
  | tx (bytes : List Byte)
  | rx (bytes : List Byte)
  | gpio (line : Line) (level : Bool)
  | delay (t : Duration)
  | srcRewind
  | srcRead (bytes : List Byte)
  | pageOut (page : Word32) (address : Word32) (data : List Byte)
  | done (result : Result)
deriving DecidableEq, Repr

/-- A move of HOST, TARGET or TIMER, or the engine's turn (R20; log 4). -/
inductive EnvMove where
  /-- The engine takes its next action. -/
  | engine
  /-- The TIMER fires: it ends a wait for which bytes are missing (R151). -/
  | timer
  /-- TARGET appends bytes at the tail of `RXQ` (R40, R45). -/
  | target (bytes : List Byte)
  /-- HOST drives `START`; a raise is a change from low to high (R36, R258; log 8). -/
  | start (level : Bool)
  /-- HOST drives the level of `ABORT` (R36). -/
  | abort (level : Bool)
  /-- HOST attaches an image, read position included (R327). -/
  | attach (image : List Byte) (pos : Nat)
  /-- Another owner of the link takes `count` bytes from the head of `RXQ` (R326). -/
  | takeLink (count : Nat)
  /-- Another owner drives the reset or mode-select wire (R35, R328). -/
  | driveLines
  /-- The engine is reset (R320, R321). -/
  | reset
deriving DecidableEq, Repr

/-- What a single codec or transport operation returned (log 10). -/
inductive UnitResult where
  | nothing
  | frame (bytes : List Byte)
  | invalidPayloadSize
  | address (a : FlashAddress)
  | byteCount (n : Nat)
  | avail (k : Nat)
  | timeout
  | bytes (bs : List Byte)
deriving DecidableEq, Repr

/-- The point the hardwired sequence has reached: what the engine does on its next turn (R25; log 9). -/
inductive Ctl where
  /-- `Idle` with `BUSY = 0`, waiting for `START` (R50, R258). -/
  | rest
  /-- Inside `enter`, `k` of its actions done (R172). -/
  | entering (k : Nat)
  /-- The command step to issue next (R28). -/
  | command (st : StepId)
  /-- The start of the write or verify pass (R241, R248). -/
  | startPass (verify : Bool)
  /-- The `SrcRead` and abort check before a page (R240, R247, R256). -/
  | startPage (verify : Bool)
  /-- The advance after a page's third acknowledgment (R244, R250). -/
  | finishPage (verify : Bool)
  /-- Inside `closeSession`, `k` of its actions done (R182). -/
  | closing (k : Nat)
  /-- The last lines of `flashAndVerify` (R258). -/
  | finish
deriving DecidableEq, Repr

/-- Why a step stops with a fault. -/
inductive Fault where
  /-- Raised by `enter`, `closeSession` and the sequencer: a session transition that the table of R187 does
  not list ("Every pair not listed has no transition"). Safe: no state that a run from reset reaches. -/
  | noTransition
  /-- Raised by `writeImage`, `verifyImage` and the pass starts: the precondition of R240 or R247 does not
  hold. Safe: no state that a run from reset reaches. -/
  | passPrecondition
deriving DecidableEq, Repr

/-- Why a step has no meaning. -/
inductive Refusal where
  /-- Raised by an arm of `exec` whose instruction has no meaning yet. Safe. -/
  | notModelled (mnemonic : String)
  /-- Raised by a command step issued in another session state than R28 lists (R230, 93 U5). Safe. -/
  | stepOutsideSession
  /-- Raised by `ReadBytes` with fewer bytes queued than asked for (R152, R332, 93 U1). Safe. -/
  | readBytesUnderflow
  /-- Raised by a move of another component on the source, the link or the lines while the session owns
  them, or by an image that is no byte source (R327, R328, 93 U2, U12). Safe. -/
  | contractBroken
deriving DecidableEq, Repr

/-- The state of the machine. The last four fields but `cfg` are the model's own (log 4, 9, 10). -/
structure State where
  /-- `ADDR[0..3]` (R21). -/
  addr : FlashAddress
  /-- `PBUF[0..255]` (R22). -/
  pbuf : List Byte
  /-- `CHUNKLEN` (R22). -/
  chunkLen : BitVec 9
  /-- `RXBUF[0..256]` (R23). -/
  rxbuf : List Byte
  /-- `RXLEN` (R23). -/
  rxLen : BitVec 9
  /-- `SESS` (R26). -/
  sess : Sess
  /-- `PASS` (R27). -/
  pass : Pass
  /-- `STEP`; `none` is `NoStep` (R28). -/
  step : Option StepId
  /-- `PAGEIDX` (R29). -/
  pageIdx : Word32
  /-- `FAIL_REASON` (R31). -/
  failReason : FailReason
  /-- `FAIL_PASS` (R31). -/
  failPass : Pass
  /-- `FAIL_STEP`; `none` is `NoStep` (R31). -/
  failStep : Option StepId
  /-- `FAIL_PAGE` (R31). -/
  failPage : Word32
  /-- `W_ATT` (R32). -/
  wAtt : Word32
  /-- `W_OK` (R32). -/
  wOk : Word32
  /-- `V_ATT` (R32). -/
  vAtt : Word32
  /-- `V_OK` (R32). -/
  vOk : Word32
  /-- `RES_OK` (R33). -/
  resOk : Bool
  /-- `BUSY` (R33). -/
  busy : Bool
  /-- `CONTRACT_VIOL` (R34). -/
  contractViol : Bool
  /-- `OWN` (R35). -/
  own : Bool
  /-- `RST_LINE` (R35). -/
  rstLine : Bool
  /-- `MODE_LINE` (R35). -/
  modeLine : Bool
  /-- `START` as HOST drives it; the engine never writes it (R36; log 8). -/
  start : Bool
  /-- `ABORT` (R36). -/
  abort : Bool
  /-- `RXQ`, head first (R40). -/
  rxq : List Byte
  /-- `TX` (R41). -/
  tx : List Byte
  /-- `SRC` (R42). -/
  src : Source
  /-- The events so far (R12). -/
  trace : List Event
  /-- The parameters `WIRE`, `BASE`, `VERIFY_EN` (R6, R7, R8); no operation writes them. -/
  cfg : Params
  /-- The position of the hardwired sequence (the model's own; log 9). -/
  ctl : Ctl
  /-- The moves of the other agents still to come (the model's own; log 4). -/
  env : List EnvMove
  /-- What the last single codec or transport operation returned (the model's own; log 10). -/
  unitOut : UnitResult
deriving DecidableEq, Repr

/-- The machine right after reset (R50, R320). `ADDR`, `PBUF`, `RXBUF`: DESIGN CHOICE zero (log 6);
`START`, `ABORT`, `RXQ`, `SRC`: DESIGN CHOICE (log 7); parameters: log 1 and log 2. -/
def State.reset : State where
  addr := ⟨0, 0, 0, 0⟩
  pbuf := List.replicate 256 0
  chunkLen := 0
  rxbuf := List.replicate 257 0
  rxLen := 0
  sess := .idle
  pass := .none
  step := none
  pageIdx := 0
  failReason := .none
  failPass := .none
  failStep := none
  failPage := 0
  wAtt := 0
  wOk := 0
  vAtt := 0
  vOk := 0
  resOk := false
  busy := false
  contractViol := false
  own := false
  rstLine := true
  modeLine := false
  start := false
  abort := false
  rxq := []
  tx := []
  src := ⟨[], 0⟩
  trace := []
  cfg := Params.standard
  ctl := .rest
  env := []
  unitOut := .nothing

end Sys2Proof.Machine
end

