-- ==== Sys2Proof/Machine/Flags.lean ====
section
/-! DEFINITION. Status: the classification of a response byte and the numeric codes and packed registers
the host reads (10_state.md R26 to R31, R37; 30_encoding.md R97). This hardware has no condition flag
(R30, 43_command_set.md head). -/

namespace Sys2Proof.Machine

/-- The class of a received response (R97): `Ack` exactly if its first byte is `ACK`; every other byte,
the reserved `NACK` among them, is `Nack`. The third value, `Timeout`, is an outcome of the wait. -/
def acknowledged (w : Wire) (response : List Byte) : Bool := decide (response.head? = some w.ack)

/-- Codes of `SESS` (R26). -/
def Sess.code : Sess → Word32
  | .idle => 0
  | .modeAsserted => 1
  | .synced => 2
  | .ready => 3
  | .erasing => 4
  | .transferring => 5
  | .closing => 6
  | .faulted => 7

/-- Codes of `PASS` (R27). -/
def Pass.code : Pass → Word32
  | .none => 0
  | .setup => 1
  | .write => 2
  | .verify => 3

/-- Codes of `STEP` (R28); `none` is `NoStep`, 15. -/
def stepCode : Option StepId → Word32
  | some .sync => 0
  | some .get => 1
  | some .getVersion => 2
  | some .getId => 3
  | some .eraseCmd => 4
  | some .eraseParam => 5
  | some .extEraseCmd => 6
  | some .extEraseParam => 7
  | some .writeSetup => 8
  | some .writeAddress => 9
  | some .writePayload => 10
  | some .readSetup => 11
  | some .readAddress => 12
  | some .readLength => 13
  | none => 15

/-- Codes of `FAIL_REASON` (R31, R280). -/
def FailReason.code : FailReason → Word32
  | .none => 0
  | .timeout => 1
  | .protocolNack => 2
  | .invalidPayloadSize => 3
  | .sessionContractViolation => 4
  | .aborted => 5

/-- A flag at bit `n` of a packed register. -/
def bitAt (b : Bool) (n : Nat) : Word32 := if b then (1 : Word32) <<< n else 0

/-- `STATUS` (R37, register 0). -/
def statusWord (s : State) : Word32 :=
  bitAt s.busy 0 ||| bitAt s.resOk 1 ||| bitAt s.contractViol 2 ||| bitAt s.own 3 ||| bitAt s.rstLine 4
    ||| bitAt s.modeLine 5

/-- `SEQSTATE` (R37, register 1). -/
def seqStateWord (s : State) : Word32 :=
  s.sess.code ||| s.pass.code <<< 3 ||| stepCode s.step <<< 5

/-- `FAILINFO` (R37, register 3). -/
def failInfoWord (s : State) : Word32 :=
  s.failReason.code ||| s.failPass.code <<< 3 ||| stepCode s.failStep <<< 5

/-- The host's read of `RXBUF[i]`, which R23 makes readable and R37 gives no number (log 25). -/
def hostRxbuf (s : State) (i : Nat) : Option Byte := if i ≤ 256 then s.rxbuf[i]? else none

/-- The host's read of `RXLEN`, which R23 makes readable and R37 gives no number (log 25). -/
def hostRxLen (s : State) : BitVec 9 := s.rxLen

/-- The host's read of register `n` (R37): ten registers, no side effect. -/
def hostRead (s : State) (n : Nat) : Option Word32 :=
  match n with
  | 0 => some (statusWord s)
  | 1 => some (seqStateWord s)
  | 2 => some s.pageIdx
  | 3 => some (failInfoWord s)
  | 4 => some s.failPage
  | 5 => some s.wAtt
  | 6 => some s.wOk
  | 7 => some s.vAtt
  | 8 => some s.vOk
  | 9 => some (val32 s.addr)
  | _ => none

end Sys2Proof.Machine
end

