-- ==== Sys2Proof/Machine/Operands.lean ====
section
/-! DEFINITION. The columns of the step table (10_state.md R28, 30_encoding.md R100): for each step the
session state and pass it is issued in, the length of its response, and the instruction the sequencer
issues for it, with its operand taken from the registers. -/

namespace Sys2Proof.Machine

/-- The session state a step may be issued in (R28, column "issued in"). -/
def stepSession : StepId → Sess
  | .sync => .modeAsserted
  | .get => .synced
  | .getVersion => .synced
  | .getId => .synced
  | .eraseCmd => .synced
  | .eraseParam => .synced
  | .extEraseCmd => .synced
  | .extEraseParam => .synced
  | .writeSetup => .transferring
  | .writeAddress => .transferring
  | .writePayload => .transferring
  | .readSetup => .transferring
  | .readAddress => .transferring
  | .readLength => .transferring

/-- The pass a step belongs to (R27, R200 to R225). -/
def stepPass : StepId → Pass
  | .sync => .setup
  | .get => .setup
  | .getVersion => .setup
  | .getId => .setup
  | .eraseCmd => .setup
  | .eraseParam => .setup
  | .extEraseCmd => .setup
  | .extEraseParam => .setup
  | .writeSetup => .write
  | .writeAddress => .write
  | .writePayload => .write
  | .readSetup => .verify
  | .readAddress => .verify
  | .readLength => .verify

/-- The expected response length of a step (R5, R100). -/
def ackLen : StepId → Nat
  | .sync => 1
  | .get => 15
  | .getVersion => 5
  | .getId => 5
  | .eraseCmd => 1
  | .eraseParam => 1
  | .extEraseCmd => 1
  | .extEraseParam => 1
  | .writeSetup => 1
  | .writeAddress => 1
  | .writePayload => 1
  | .readSetup => 1
  | .readAddress => 1
  | .readLength => 257

/-- The instruction the sequencer issues for a step: the operand of format A is `ADDR[0..3]` (R211, R221),
that of format D is `PBUF[0..255]` (R212). -/
def issue (st : StepId) (s : State) : Instr :=
  match st with
  | .sync => .sync
  | .get => .get
  | .getVersion => .getVersion
  | .getId => .getId
  | .eraseCmd => .eraseCmd
  | .eraseParam => .eraseParam
  | .extEraseCmd => .extEraseCmd
  | .extEraseParam => .extEraseParam
  | .writeSetup => .writeSetup
  | .writeAddress => .writeAddress s.addr
  | .writePayload => .writePayload s.pbuf
  | .readSetup => .readSetup
  | .readAddress => .readAddress s.addr
  | .readLength => .readLength

end Sys2Proof.Machine
end

