-- ==== Sys2Proof/Machine/Ops.lean ====
section
/-! DEFINITION. The named operations the meanings share: the moves of the other agents, the transport and
`Exchange` (41_transport.md), the byte source (20_memory.md R62), the lines (42_device_session.md), and the
one operation that takes a failure, `raiseFail`, with its return, the close sequence (60_exceptions.md). -/

namespace Sys2Proof.Machine

/-- How an operation ends. `fail` is a failure of R280 that has been recorded: "then, if the left side did
not fail" (R104) tells it from `ok`. -/
inductive Flow where
  /-- The operation is complete. -/
  | ok (s : State)
  /-- A failure or an abort was recorded; the rest of the operation is abandoned (R284). -/
  | fail (s : State)
  /-- The engine was reset while it waited (R321). -/
  | reset (s : State)
  /-- The model stops with a fault. -/
  | fault (f : Fault)
  /-- The model stops with a refusal. -/
  | refused (r : Refusal)
deriving DecidableEq, Repr

/-- The outcome of a step whose instruction ended so: a failure and a reset are next states. -/
def Flow.outcome : Flow → Host.Outcome State Fault Refusal
  | .ok s => .next s
  | .fail s => .next s
  | .reset s => .next s
  | .fault f => .fault f
  | .refused r => .refused r

/-- `a; b` of R104: `b` only if `a` did not fail. -/
def Flow.andThen (f : Flow) (k : State → Flow) : Flow :=
  match f with
  | .ok s => k s
  | .fail s => .fail s
  | .reset s => .reset s
  | .fault e => .fault e
  | .refused r => .refused r

/-- The lines of R258 that are reached whether or not the part before them failed. -/
def Flow.always (f : Flow) (k : State → Flow) : Flow :=
  match f with
  | .ok s => k s
  | .fail s => k s
  | .reset s => .reset s
  | .fault e => .fault e
  | .refused r => .refused r

/-- Appends an event to the trace (R12). -/
def emit (e : Event) (s : State) : State := { s with trace := s.trace ++ [e] }

/-- The engine after a reset in any state: the values of R50; `RXQ`, `TX` and `SRC` are not the engine's to
reset, `START` and `ABORT` are the host's to drive, and the schedule and parameters go on (R36, R50, R321;
log 19). -/
def engineReset (s : State) : State :=
  { State.reset with
    rxq := s.rxq, tx := s.tx, src := s.src, start := s.start, abort := s.abort, trace := s.trace, cfg := s.cfg
    env := s.env }

/-! ### Moves of the other agents -/

/-- What a move of another agent comes to. -/
inductive Moved where
  /-- The move is made. -/
  | on (s : State)
  /-- The engine is reset (R321). -/
  | reset (s : State)
  /-- The move breaks the host contract (R327, R328); no rule describes what follows. -/
  | broken
deriving DecidableEq, Repr

/-- The outcome of a step that is another agent's move. -/
def Moved.outcome : Moved → Host.Outcome State Fault Refusal
  | .on s => .next s
  | .reset s => .next s
  | .broken => .refused .contractBroken

/-- HOST drives `START`: a raise while `BUSY = 1` sets `CONTRACT_VIOL` and is otherwise ignored (R34, R36). -/
def driveStart (level : Bool) (s : State) : State :=
  { s with start := level, contractViol := s.contractViol || (level && !s.start && s.busy) }

/-- Whether the link and the lines are the engine's: from the acceptance of `START` until `Done` (R46, R328),
and while the session owns them (R35). -/
def linkTaken (s : State) : Bool := s.busy || s.own

/-- One move of HOST, TARGET or TIMER. A timer that bounds no wait and the engine's own turn change nothing;
what the host contract forbids while an operation runs has no meaning (R46, R327, R328; 93 U2, U12; log 17).
What a raise of `START` makes the engine do is not part of the move (`otherAction`). -/
def otherMove (m : EnvMove) (s : State) : Moved :=
  match m with
  | .engine => .on s
  | .timer => .on s
  | .target bytes => .on { s with rxq := s.rxq ++ bytes }
  | .start level => .on (driveStart level s)
  | .abort level => .on { s with abort := level }
  | .attach image pos =>
    if s.busy = false ∧ image.length < 2 ^ 32 ∧ pos ≤ image.length then .on { s with src := ⟨image, pos⟩ }
    else .broken
  | .takeLink count => if linkTaken s then .broken else .on { s with rxq := s.rxq.drop count }
  | .driveLines => if linkTaken s then .broken else .on s
  | .reset => .reset (engineReset s)

/-! ### Transport -/

/-- `Send`: appends every byte to `TX`, in order (R150). -/
def send (bytes : List Byte) (s : State) : State := emit (.tx bytes) { s with tx := s.tx ++ bytes }

/-- How a wait ends (R151). -/
inductive Waited where
  /-- At least the awaited number of bytes is buffered. -/
  | avail (s : State)
  /-- The TIMER ended the wait with bytes missing. -/
  | timeout (s : State)
  /-- The engine was reset while it waited. -/
  | reset (s : State)
  /-- Another component broke the host contract while the engine waited. -/
  | broken
deriving DecidableEq, Repr

/-- The wait for `n` bytes over the moves still to come: the queue is examined first (R151); while bytes
are missing the other agents move, and a timer move ends the wait. When no agent moves any more, the
timer is all that is left (R262; log 5). A wait is inside an action, so a raise of `START` in it is never
accepted: with `BUSY = 1` it sets `CONTRACT_VIOL` (R34), and with `BUSY = 0`, in an operation run on its own,
only the level changes: DESIGN CHOICE (log 8). -/
def waitLoop (n : Nat) : List EnvMove → State → Waited
  | [], s => if n ≤ s.rxq.length then .avail s else .timeout s
  | m :: rest, s =>
    if n ≤ s.rxq.length then .avail s
    else if m = .timer then .timeout { s with env := rest }
    else
      match otherMove m { s with env := rest } with
      | .on t => waitLoop n rest t
      | .reset t => .reset t
      | .broken => .broken

/-- `WaitForBytes(n, T_SERIAL)`: it consumes no byte (R151). -/
def waitForBytes (n : Nat) (s : State) : Waited := waitLoop n s.env s

/-- The `RXBUF` write of `ReadBytes`: indices below the count receive the bytes, the others keep their
value (R23); 257 registers, whatever the count. -/
def fillRxbuf (bytes old : List Byte) : List Byte := (bytes ++ old.drop bytes.length).take 257

/-- `ReadBytes(n)`: removes the `n` oldest bytes of `RXQ` into `RXBUF` (R152, R23); `none` where fewer are
queued, a case the spec gives no meaning (R332, 93 U1). -/
def readBytes (n : Nat) (s : State) : Option (List Byte × State) :=
  if n ≤ s.rxq.length then
    let b := s.rxq.take n
    some (b, emit (.rx b)
      { s with rxq := s.rxq.drop n, rxbuf := fillRxbuf b s.rxbuf, rxLen := BitVec.ofNat 9 n })
  else none

/-! ### Failures -/

/-- The four `FAIL_` registers, written together and only if no failure is recorded yet (R31, R284). -/
def recordFailure (reason : FailReason) (st : Option StepId) (page : Word32) (s : State) : State :=
  if s.failReason = .none then
    { s with failReason := reason, failPass := s.pass, failStep := st, failPage := page }
  else s

/-- The page a failed step is recorded with: `PAGEIDX` in a page pass, else 0 (R284). -/
def failedPage (s : State) : Word32 := if s.pass = .write ∨ s.pass = .verify then s.pageIdx else 0

/-- `raise Fail(reason, step)`, the one way a failure is taken (R284): the record, `SESS <- Faulted` in the
setup pass, and control goes to the close sequence. -/
def raiseFail (reason : FailReason) (st : StepId) (s : State) : State :=
  let r := recordFailure reason (some st) (failedPage s) s
  { r with sess := if s.pass = .setup then .faulted else s.sess, ctl := .closing 0 }

/-- The abort of R256: recorded with `NoStep` and `PAGEIDX`; control goes to the close sequence. -/
def raiseAbort (s : State) : State := { recordFailure .aborted none s.pageIdx s with ctl := .closing 0 }

/-- `Exchange(frame, n, step)`: send, wait, read, test the first byte; once, with no retry (R153, R154). -/
def exchange (frame : List Byte) (n : Nat) (st : StepId) (s : State) : Flow :=
  match waitForBytes n (send frame { s with step := some st }) with
  | .timeout t => .fail (raiseFail .timeout st t)
  | .avail t =>
    match readBytes n t with
    | some (r, u) => if acknowledged u.cfg.wire r then .ok u else .fail (raiseFail .protocolNack st u)
    | none => .refused .readBytesUnderflow
  | .reset t => .reset t
  | .broken => .refused .contractBroken

/-- A command step: issued only in the session state R28 lists for it (R230, 93 U5). -/
def commandStep (frame : List Byte) (st : StepId) (s : State) : Flow :=
  if s.sess = stepSession st then exchange frame (ackLen st) st s else .refused .stepOutsideSession

/-- A command step that sends a data block. A payload of 0 or more than 256 bytes sends nothing, awaits
nothing and fails with `InvalidPayloadSize` (R287); that `STEP` is written all the same is DEDUCED (log 24).
A payload of 1 to 255 bytes, which R65 and R212 never issue, sends its short data block: DESIGN CHOICE
(log 23). -/
def payloadStep (payload : List Byte) (st : StepId) (s : State) : Flow :=
  match buildDataBlockFrame payload with
  | some frame => commandStep frame st s
  | none =>
    if s.sess = stepSession st then .fail (raiseFail .invalidPayloadSize st { s with step := some st })
    else .refused .stepOutsideSession

/-! ### Lines -/

/-- One action of `enter` or `closeSession`. -/
inductive LineAction where
  /-- `OWN <- 1`. -/
  | take
  /-- `Gpio(line, level)` (R170). -/
  | gpio (line : Line) (level : Bool)
  /-- `Delay(t)` (R170). -/
  | delay (t : Duration)
  /-- `SESS <- ModeAsserted; PASS <- Setup` (R172). -/
  | opened
  /-- `SESS <- Closing; PASS <- None; STEP <- NoStep` (R182). -/
  | closing
  /-- `OWN <- 0; SESS <- Idle`, one action (R182). -/
  | release
deriving DecidableEq, Repr

/-- `Gpio(line, level)`: sets the line and emits the event, also when the level does not change (R170). -/
def gpio (line : Line) (level : Bool) (s : State) : State :=
  match line with
  | .rst => emit (.gpio line level) { s with rstLine := level }
  | .mode => emit (.gpio line level) { s with modeLine := level }

/-- One line action; `Gpio` and `Delay` are available only while `OWN = 1` (R170). -/
def lineAction (a : LineAction) (s : State) : Flow :=
  match a with
  | .take => .ok { s with own := true }
  | .gpio line level => if s.own then .ok (gpio line level s) else .fault .noTransition
  | .delay t => if s.own then .ok (emit (.delay t) s) else .fault .noTransition
  | .opened => .ok { s with sess := .modeAsserted, pass := .setup }
  | .closing => .ok { s with sess := .closing, pass := .none, step := none }
  | .release => .ok { s with own := false, sess := .idle }

/-- `ResetPulse` (R171). -/
def resetPulse : List LineAction := [.gpio .rst false, .delay .settle, .gpio .rst true]

/-- The actions of `enter`, in order (R172). -/
def enterScript : List LineAction := [.take, .gpio .mode true] ++ resetPulse ++ [.opened]

/-- The actions of `closeSession`, in order (R182). -/
def closeScript : List LineAction :=
  [.closing, .gpio .rst false, .gpio .mode false] ++ resetPulse ++ [.release]

/-- A sequence of line actions. -/
def lineActions : List LineAction → State → Flow
  | [], s => .ok s
  | a :: rest, s => (lineAction a s).andThen (lineActions rest)

/-- `enter`: requires `SESS = Idle` and `OWN = 0` (R172). -/
def enterSession (s : State) : Flow :=
  if s.sess = .idle ∧ s.own = false then lineActions enterScript s else .fault .noTransition

/-- `closeSession`, the return from every operation and every failure: requires `OWN = 1` (R182, R291). -/
def leaveSession (s : State) : Flow :=
  if s.own then lineActions closeScript s else .fault .noTransition

/-! ### Byte source -/

/-- `SrcRewind()` (R62). -/
def srcRewind (s : State) : State := emit .srcRewind { s with src := { s.src with pos := 0 } }

/-- The bytes the next `SrcRead(256)` returns: up to 256, fewer only at the end of the image (R62). -/
def nextChunk (src : Source) : List Byte := (src.bytes.drop src.pos).take pageSize

/-- `SrcRead(256)`: the state after it (R62). -/
def srcRead (s : State) : State :=
  let chunk := nextChunk s.src
  emit (.srcRead chunk) { s with src := { s.src with pos := s.src.pos + chunk.length } }

end Sys2Proof.Machine
end

