-- ==== Sys2Proof/Machine/CodecUnit.lean ====
section
/-! DEFINITION. The meanings of the codec functions as operations of their own (40_frame_codec.md): they
write no register of the machine, only the model's result field (R130; log 10). -/

namespace Sys2Proof.Machine

/-- The meaning of `buildCommand` (R132). -/
def execBuildCommand (opcode : Byte) (s : State) : Host.Outcome State Fault Refusal :=
  .next { s with unitOut := .frame (buildCommand opcode) }

/-- The meaning of `buildAddressFrame` (R133). -/
def execBuildAddressFrame (address : FlashAddress) (s : State) : Host.Outcome State Fault Refusal :=
  .next { s with unitOut := .frame (buildAddressFrame address) }

/-- The output of the data block unit: a frame, or the failure `InvalidPayloadSize` (R134, R135). -/
def dataBlockOut (payload : List Byte) : UnitResult :=
  match buildDataBlockFrame payload with
  | some frame => .frame frame
  | none => .invalidPayloadSize

/-- The meaning of `buildDataBlockFrame` (R134, R135). -/
def execBuildDataBlockFrame (payload : List Byte) (s : State) : Host.Outcome State Fault Refusal :=
  .next { s with unitOut := dataBlockOut payload }

/-- The meaning of `incrementAddress` (R136). -/
def execIncrementAddress (address : FlashAddress) (s : State) : Host.Outcome State Fault Refusal :=
  .next { s with unitOut := .address (incrementAddress address) }

end Sys2Proof.Machine
end

