-- ==== Sys2Proof/Machine/ReadMemory.lean ====
section
/-! DEFINITION. The meanings of the read-memory steps and of `readPage` (43_command_set.md section 4). -/

namespace Sys2Proof.Machine

/-- `ReadSetup`: `Exchange(buildCommand(OPC_READ), 1, ReadSetup)` (R220). -/
def flowReadSetup (s : State) : Flow := commandStep (buildCommand s.cfg.wire.opcRead) .readSetup s

/-- The meaning of `ReadSetup` (R220). -/
def execReadSetup (s : State) : Host.Outcome State Fault Refusal := (flowReadSetup s).outcome

/-- `ReadAddress`: `Exchange(buildAddressFrame(address), 1, ReadAddress)` (R221). -/
def flowReadAddress (address : FlashAddress) (s : State) : Flow :=
  commandStep (buildAddressFrame address) .readAddress s

/-- The meaning of `ReadAddress` (R221). -/
def execReadAddress (address : FlashAddress) (s : State) : Host.Outcome State Fault Refusal :=
  (flowReadAddress address s).outcome

/-- `ReadLength`: `Exchange(READ_FULL_PAGE, 257, ReadLength)` (R225). -/
def flowReadLength (s : State) : Flow := commandStep (pairBytes s.cfg.wire.readFullPage) .readLength s

/-- The meaning of `ReadLength` (R225). -/
def execReadLength (s : State) : Host.Outcome State Fault Refusal := (flowReadLength s).outcome

/-- `readPage`: the three steps, each only if the one before was acknowledged; the page read is
`RXBUF[1..256]` (R226). -/
def flowReadPage (s : State) : Flow :=
  (flowReadSetup s).andThen fun t =>
    (flowReadAddress t.addr t).andThen flowReadLength

/-- The meaning of `readPage` (R226). -/
def execReadPage (s : State) : Host.Outcome State Fault Refusal := (flowReadPage s).outcome

end Sys2Proof.Machine
end

