-- ==== Sys2Proof/Machine/Sequencer.lean ====
section
/-! DEFINITION. The actions of the page loop and of `flashAndVerify` (44_transfer_orchestrator.md), and the
hardwired sequence over them (10_state.md R25, 42_device_session.md R187): what the engine does on each of
its turns that issues no command step, and where the sequence goes after one that does. -/

namespace Sys2Proof.Machine

/-! ### The orchestrator's actions -/

/-- The acceptance of `START`: the first three lines of `flashAndVerify` (R258). -/
def accept (s : State) : State :=
  { s with
    busy := true, resOk := false
    failReason := .none, failPass := .none, failStep := none, failPage := 0
    wAtt := 0, wOk := 0, vAtt := 0, vOk := 0, pageIdx := 0 }

/-- The result registers, as `Done` carries them (R260). -/
def result (s : State) : Result where
  resOk := s.resOk
  failReason := s.failReason
  failPass := s.failPass
  failStep := s.failStep
  failPage := s.failPage
  wAtt := s.wAtt
  wOk := s.wOk
  vAtt := s.vAtt
  vOk := s.vOk

/-- The last three lines of `flashAndVerify` (R258): `RES_OK`, `BUSY <- 0`, `Done`; the engine is at rest. -/
def finish (s : State) : State :=
  let t := { s with resOk := decide (s.failReason = .none), busy := false, ctl := .rest }
  emit (.done (result t)) t

/-- Whether a pass may start: `SESS` is `Ready` or `Transferring` and no failure is recorded; for the
verify pass `VERIFY_EN` too (R240, R247). -/
def passMayStart (verify : Bool) (s : State) : Bool :=
  (decide (s.sess = .ready) || decide (s.sess = .transferring)) && decide (s.failReason = .none)
    && (!verify || s.cfg.verifyEn)

/-- The pass a page loop runs in. -/
def loopPass (verify : Bool) : Pass := if verify then .verify else .write

/-- Pass start (R241, R248). -/
def startPass (verify : Bool) (s : State) : State :=
  let t := srcRewind { s with sess := .transferring, pass := loopPass verify }
  { t with addr := be32 s.cfg.base, pageIdx := 0 }

/-- Page fetch and padding: `CHUNKLEN` and all 256 bytes of `PBUF` (R243). -/
def loadPage (chunk : List Byte) (s : State) : State :=
  { s with chunkLen := BitVec.ofNat 9 chunk.length, pbuf := chunk ++ zeros (pageSize - chunk.length) }

/-- How the start of a page goes (R240, R247). -/
inductive PageStart where
  /-- The image is exhausted: the pass is complete (R242, R249). -/
  | exhausted (s : State)
  /-- `ABORT` was sampled high (R256). -/
  | aborted (s : State)
  /-- The page is counted as attempted and its first command is next (R244, R250). -/
  | page (s : State)
deriving DecidableEq, Repr

/-- `SrcRead(256)`, the end test, the abort sample, then the page: fetched into `PBUF` in the write pass
only (R249), and counted as attempted. -/
def startPage (verify : Bool) (s : State) : PageStart :=
  let chunk := nextChunk s.src
  let t := srcRead s
  if chunk = [] then .exhausted t
  else if t.abort then .aborted (raiseAbort t)
  else if verify then .page { t with vAtt := t.vAtt + 1 }
  else
    let u := loadPage chunk t
    .page { u with wAtt := u.wAtt + 1 }

/-- The end of a page whose three steps were acknowledged: `PageOut` in the verify pass, with the address
before it is advanced (R251), then the count, `ADDR` and `PAGEIDX` (R244, R250). -/
def finishPage (verify : Bool) (s : State) : State :=
  let t :=
    if verify then
      let u := emit (.pageOut s.pageIdx (val32 s.addr) ((s.rxbuf.drop 1).take pageSize)) s
      { u with vOk := u.vOk + 1 }
    else { s with wOk := s.wOk + 1 }
  { t with addr := incrementAddress t.addr, pageIdx := t.pageIdx + 1 }

/-! ### The hardwired sequence -/

/-- The command step whose instruction the engine issues on its next turn, if it issues one. `Faulted` is
left at once for `Closing` (R184), and so is `Erasing`, which no rule enters (R186). -/
def dueStep (s : State) : Option StepId :=
  if s.sess = .faulted ∨ s.sess = .erasing then none
  else
    match s.ctl with
    | .command st => some st
    | _ => none

/-- The instruction the engine issues on its next turn, if it issues one. -/
def dueInstr (s : State) : Option Instr := (dueStep s).map (fun st => issue st s)

/-- Where the sequence goes when a step was acknowledged (R104), with the session transitions of R174 and
R175. -/
def afterStep (st : StepId) (s : State) : State :=
  match st with
  | .sync => { s with sess := .synced, ctl := .command .get }
  | .get => { s with ctl := .command .getVersion }
  | .getVersion => { s with ctl := .command .getId }
  | .getId => { s with ctl := .command .eraseCmd }
  | .eraseCmd => { s with ctl := .command .eraseParam }
  | .eraseParam => { s with ctl := .command .extEraseCmd }
  | .extEraseCmd => { s with ctl := .command .extEraseParam }
  | .extEraseParam => { s with sess := .ready, ctl := .startPass false }
  | .writeSetup => { s with ctl := .command .writeAddress }
  | .writeAddress => { s with ctl := .command .writePayload }
  | .writePayload => { s with ctl := .finishPage false }
  | .readSetup => { s with ctl := .command .readAddress }
  | .readAddress => { s with ctl := .command .readLength }
  | .readLength => { s with ctl := .finishPage true }

/-- What the sequence adds after an issued step: it goes on only if the step left control where it was; a
failure has sent it to the close sequence (R284), a reset to rest (R321). -/
def retireStep (st : StepId) (s : State) : State :=
  if s.ctl = .command st then afterStep st s else s

/-- The next state of an outcome, changed by `f`; stops stay as they are. -/
def mapNext (f : State → State) (o : Host.Outcome State Fault Refusal) : Host.Outcome State Fault Refusal :=
  match o with
  | .next s => .next (f s)
  | .fault e => .fault e
  | .refused r => .refused r

/-- Where the sequence goes when a pass is complete (R258). -/
def afterPass (verify : Bool) (s : State) : Ctl :=
  if verify = false ∧ s.cfg.verifyEn then .startPass true else .closing 0

/-- Action `k` of `enter`; after the last one the `Sync` step is next (R172, R174). -/
def enterAction (k : Nat) (s : State) : Host.Outcome State Fault Refusal :=
  if k = 0 ∧ ¬(s.sess = .idle ∧ s.own = false) then .fault .noTransition
  else
    match enterScript[k]? with
    | none => .fault .noTransition
    | some a =>
      mapNext (fun t => { t with ctl := if k + 1 = enterScript.length then .command .sync else .entering (k + 1) })
        (lineAction a s).outcome

/-- Action `k` of `closeSession`; after the last one the operation ends (R182, R258). -/
def closeAction (k : Nat) (s : State) : Host.Outcome State Fault Refusal :=
  if k = 0 ∧ s.own = false then .fault .noTransition
  else
    match closeScript[k]? with
    | none => .fault .noTransition
    | some a =>
      mapNext (fun t => { t with ctl := if k + 1 = closeScript.length then .finish else .closing (k + 1) })
        (lineAction a s).outcome

/-- The engine's turn when no command step is due (R25, R187, R258). -/
def sequenceAction (s : State) : Host.Outcome State Fault Refusal :=
  if s.sess = .faulted ∨ s.sess = .erasing then closeAction 0 s
  else
    match s.ctl with
    | .rest =>
      if s.busy then .fault .noTransition else .next s
    | .entering k => enterAction k s
    | .command _ => .fault .noTransition
    | .startPass verify =>
      if passMayStart verify s then .next { startPass verify s with ctl := .startPage verify }
      else .fault .passPrecondition
    | .startPage verify =>
      match startPage verify s with
      | .exhausted t => .next { t with ctl := afterPass verify t }
      | .aborted t => .next t
      | .page t => .next { t with ctl := .command (if verify then .readSetup else .writeSetup) }
    | .finishPage verify => .next { finishPage verify s with ctl := .startPage verify }
    | .closing k => closeAction k s
    | .finish => .next (finish s)

/-- Whether a move is a raise of `START` that the engine accepts: it is at rest with `BUSY = 0` (R36, R258,
R289; log 8). -/
def startAccepted (m : EnvMove) (s : State) : Bool :=
  match m with
  | .start level => level && !s.start && !s.busy && decide (s.ctl = .rest)
  | _ => false

/-- A step that is another agent's move; a raise of `START` at rest is accepted in the same step, so that
nothing is ever pending (R258, R289). -/
def otherAction (m : EnvMove) (s : State) : Host.Outcome State Fault Refusal :=
  if startAccepted m s then mapNext (fun t => { accept t with ctl := .entering 0 }) (otherMove m s).outcome
  else (otherMove m s).outcome

/-- Whose move it is: the head of the schedule if that is another agent's, else the engine's; an exhausted
schedule leaves every turn to the engine (R20; log 4, log 5). -/
def otherTurn (s : State) : Option (EnvMove × State) :=
  match s.env with
  | [] => none
  | m :: rest => if m = .engine then none else some (m, { s with env := rest })

/-- The state with which the engine takes its turn: the schedule's mark for it is spent. -/
def engineTurn (s : State) : State :=
  match s.env with
  | [] => s
  | m :: rest => if m = .engine then { s with env := rest } else s

end Sys2Proof.Machine
end

