-- ==== Sys2Proof/Machine/Handshake.lean ====
section
/-! DEFINITION. The meaning of `Sync` (43_command_set.md section 1). -/

namespace Sys2Proof.Machine

/-- `Sync`: `Exchange([SYNC], 1, Sync)` (R200). -/
def flowSync (s : State) : Flow := commandStep [s.cfg.wire.sync] .sync s

/-- The meaning of `Sync` (R200). -/
def execSync (s : State) : Host.Outcome State Fault Refusal := (flowSync s).outcome

end Sys2Proof.Machine
end

