-- ==== Sys2Proof/Machine/Setup.lean ====
section
/-! DEFINITION. The meanings of the seven setup steps (43_command_set.md section 2). -/

namespace Sys2Proof.Machine

/-- `Get`: `Exchange(buildCommand(OPC_GET), 15, Get)` (R201). -/
def flowGet (s : State) : Flow := commandStep (buildCommand s.cfg.wire.opcGet) .get s

/-- The meaning of `Get` (R201). -/
def execGet (s : State) : Host.Outcome State Fault Refusal := (flowGet s).outcome

/-- `GetVersion`: `Exchange(buildCommand(OPC_GETVERSION), 5, GetVersion)` (R202). -/
def flowGetVersion (s : State) : Flow := commandStep (buildCommand s.cfg.wire.opcGetVersion) .getVersion s

/-- The meaning of `GetVersion` (R202). -/
def execGetVersion (s : State) : Host.Outcome State Fault Refusal := (flowGetVersion s).outcome

/-- `GetId`: `Exchange(buildCommand(OPC_GETID), 5, GetId)` (R203). -/
def flowGetId (s : State) : Flow := commandStep (buildCommand s.cfg.wire.opcGetId) .getId s

/-- The meaning of `GetId` (R203). -/
def execGetId (s : State) : Host.Outcome State Fault Refusal := (flowGetId s).outcome

/-- `EraseCmd`: `Exchange(buildCommand(OPC_ERASE), 1, EraseCmd)` (R204). -/
def flowEraseCmd (s : State) : Flow := commandStep (buildCommand s.cfg.wire.opcErase) .eraseCmd s

/-- The meaning of `EraseCmd` (R204). -/
def execEraseCmd (s : State) : Host.Outcome State Fault Refusal := (flowEraseCmd s).outcome

/-- `EraseParam`: `Exchange(ERASE_ALL, 1, EraseParam)` (R205). -/
def flowEraseParam (s : State) : Flow := commandStep (pairBytes s.cfg.wire.eraseAll) .eraseParam s

/-- The meaning of `EraseParam` (R205). -/
def execEraseParam (s : State) : Host.Outcome State Fault Refusal := (flowEraseParam s).outcome

/-- `ExtEraseCmd`: `Exchange(buildCommand(OPC_EXTERASE), 1, ExtEraseCmd)` (R206). -/
def flowExtEraseCmd (s : State) : Flow := commandStep (buildCommand s.cfg.wire.opcExtErase) .extEraseCmd s

/-- The meaning of `ExtEraseCmd` (R206). -/
def execExtEraseCmd (s : State) : Host.Outcome State Fault Refusal := (flowExtEraseCmd s).outcome

/-- `ExtEraseParam`: `Exchange(EXTERASE_ALL, 1, ExtEraseParam)` (R207). -/
def flowExtEraseParam (s : State) : Flow := commandStep (tripleBytes s.cfg.wire.extEraseAll) .extEraseParam s

/-- The meaning of `ExtEraseParam` (R207). -/
def execExtEraseParam (s : State) : Host.Outcome State Fault Refusal := (flowExtEraseParam s).outcome

end Sys2Proof.Machine
end

