-- ==== Sys2Proof/Machine/Session.lean ====
section
/-! DEFINITION. The meanings of `enter`, `openSession` and `closeSession` (42_device_session.md). -/

namespace Sys2Proof.Machine

/-- The meaning of `enter` (R172). -/
def execEnter (s : State) : Host.Outcome State Fault Refusal := (enterSession s).outcome

/-- `ModeAsserted -> Synced`: `Sync`, and on `Ack` `SESS <- Synced` (R174). -/
def flowHandshake (s : State) : Flow :=
  (flowSync s).andThen fun t => .ok { t with sess := .synced }

/-- `Synced -> Ready`: the seven setup steps in order, and when all are acknowledged `SESS <- Ready`
(R175, R176). -/
def flowSetup (s : State) : Flow :=
  (flowGet s).andThen fun s1 =>
    (flowGetVersion s1).andThen fun s2 =>
      (flowGetId s2).andThen fun s3 =>
        (flowEraseCmd s3).andThen fun s4 =>
          (flowEraseParam s4).andThen fun s5 =>
            (flowExtEraseCmd s5).andThen fun s6 =>
              (flowExtEraseParam s6).andThen fun s7 =>
                .ok { s7 with sess := .ready }

/-- `openSession = enter; ModeAsserted -> Synced; Synced -> Ready` (R178). -/
def flowOpenSession (s : State) : Flow :=
  (enterSession s).andThen fun t => (flowHandshake t).andThen flowSetup

/-- The meaning of `openSession` (R178). -/
def execOpenSession (s : State) : Host.Outcome State Fault Refusal := (flowOpenSession s).outcome

/-- The meaning of `closeSession` (R182). -/
def execCloseSession (s : State) : Host.Outcome State Fault Refusal := (leaveSession s).outcome

end Sys2Proof.Machine
end

