-- ==== Sys2Proof/Machine/WriteMemory.lean ====
section
/-! DEFINITION. The meanings of the write-memory steps and of `writePage` (43_command_set.md section 3). -/

namespace Sys2Proof.Machine

/-- `WriteSetup`: `Exchange(buildCommand(OPC_WRITE), 1, WriteSetup)` (R210). -/
def flowWriteSetup (s : State) : Flow := commandStep (buildCommand s.cfg.wire.opcWrite) .writeSetup s

/-- The meaning of `WriteSetup` (R210). -/
def execWriteSetup (s : State) : Host.Outcome State Fault Refusal := (flowWriteSetup s).outcome

/-- `WriteAddress`: `Exchange(buildAddressFrame(address), 1, WriteAddress)` (R211). -/
def flowWriteAddress (address : FlashAddress) (s : State) : Flow :=
  commandStep (buildAddressFrame address) .writeAddress s

/-- The meaning of `WriteAddress` (R211). -/
def execWriteAddress (address : FlashAddress) (s : State) : Host.Outcome State Fault Refusal :=
  (flowWriteAddress address s).outcome

/-- `WritePayload`: `Exchange(buildDataBlockFrame(payload), 1, WritePayload)` (R212); R287 for a payload
that no data block can hold; a payload of 1 to 255 bytes sends its short block (log 23). -/
def flowWritePayload (payload : List Byte) (s : State) : Flow := payloadStep payload .writePayload s

/-- The meaning of `WritePayload` (R212, R287). -/
def execWritePayload (payload : List Byte) (s : State) : Host.Outcome State Fault Refusal :=
  (flowWritePayload payload s).outcome

/-- `writePage`: the three steps, each only if the one before was acknowledged; the operands are `ADDR` and
`PBUF` (R216). -/
def flowWritePage (s : State) : Flow :=
  (flowWriteSetup s).andThen fun t =>
    (flowWriteAddress t.addr t).andThen fun u =>
      flowWritePayload u.pbuf u

/-- The meaning of `writePage` (R216). -/
def execWritePage (s : State) : Host.Outcome State Fault Refusal := (flowWritePage s).outcome

end Sys2Proof.Machine
end

