-- ==== Sys2Proof/Machine/Orchestrator.lean ====
section
/-! DEFINITION. The meanings of `writeImage`, `verifyImage` and `flashAndVerify`
(44_transfer_orchestrator.md), as the pseudocode of R240, R247 and R258 writes them. -/

namespace Sys2Proof.Machine

/-- The page transaction of a pass (R216, R226). -/
def flowPage (verify : Bool) (s : State) : Flow := if verify then flowReadPage s else flowWritePage s

/-- The bytes of the image a move attaches. -/
def attachedBytes (m : EnvMove) : Nat :=
  match m with
  | .attach image _ => image.length
  | _ => 0

/-- A number of `SrcRead`s that no pass from this state exceeds: each non-empty one takes a byte of the image
or, in a pass run on its own with `BUSY = 0`, of an image attached in one of its waits (log 26). -/
def srcReadBound (s : State) : Nat := s.src.bytes.length + (s.env.map attachedBytes).sum + 1

/-- The loop of R240 and R247: page after page until a `SrcRead` returns no bytes, an abort is sampled or a
step fails. The first argument bounds the number of `SrcRead`s; from `srcReadBound` on it is never reached
(R262). Where an image is attached in mid-pass, which only `BUSY = 0` allows, the pass reads on in the new
one: DESIGN CHOICE (log 26). -/
def pageLoop (verify : Bool) : Nat → State → Flow
  | 0, s => .ok s
  | bound + 1, s =>
    match startPage verify s with
    | .exhausted t => .ok t
    | .aborted t => .fail t
    | .page t => (flowPage verify t).andThen fun u => pageLoop verify bound (finishPage verify u)

/-- A whole pass: precondition, pass start, page loop (R240, R247). -/
def flowPass (verify : Bool) (s : State) : Flow :=
  if passMayStart verify s then pageLoop verify (srcReadBound s) (startPass verify s)
  else .fault .passPrecondition

/-- The meaning of `writeImage` (R240). -/
def execWriteImage (s : State) : Host.Outcome State Fault Refusal := (flowPass false s).outcome

/-- The meaning of `verifyImage` (R247). -/
def execVerifyImage (s : State) : Host.Outcome State Fault Refusal := (flowPass true s).outcome

/-- `flashAndVerify` (R258): with `BUSY = 1` the request is ignored and `CONTRACT_VIOL` is set (R34). -/
def flowFlashAndVerify (s : State) : Flow :=
  if s.busy then .ok { s with contractViol := true }
  else
    (flowOpenSession (accept s)).always fun s1 =>
      (if s1.failReason = .none then flowPass false s1 else .ok s1).always fun s2 =>
        (if s2.failReason = .none ∧ s2.cfg.verifyEn then flowPass true s2 else .ok s2).always fun s3 =>
          (leaveSession s3).always fun s4 => .ok (finish s4)

/-- The meaning of `flashAndVerify` (R258). -/
def execFlashAndVerify (s : State) : Host.Outcome State Fault Refusal := (flowFlashAndVerify s).outcome

end Sys2Proof.Machine
end

