-- ==== Sys2Proof/Machine/Transport.lean ====
section
/-! DEFINITION. The meanings of the transport operations (41_transport.md). -/

namespace Sys2Proof.Machine

/-- The meaning of `Send`; it returns the number of bytes sent (R150). -/
def execSend (bytes : List Byte) (s : State) : Host.Outcome State Fault Refusal :=
  .next { send bytes s with unitOut := .byteCount bytes.length }

/-- The meaning of `WaitForBytes`: `Avail(k)` with the queue's length, or `Timeout` (R151). The timeout is
`T_SERIAL` in every use and no rule depends on its value (R345). -/
def execWaitForBytes (n : Nat) (_timeout : Duration) (s : State) : Host.Outcome State Fault Refusal :=
  match waitForBytes n s with
  | .avail t => .next { t with unitOut := .avail t.rxq.length }
  | .timeout t => .next { t with unitOut := .timeout }
  | .reset t => .next t
  | .broken => .refused .contractBroken

/-- The meaning of `ReadBytes`; it returns the bytes read (R152). -/
def execReadBytes (n : Nat) (s : State) : Host.Outcome State Fault Refusal :=
  match readBytes n s with
  | some (b, t) => .next { t with unitOut := .bytes b }
  | none => .refused .readBytesUnderflow

/-- The meaning of `Exchange` (R153). -/
def execExchange (frame : List Byte) (n : Nat) (st : StepId) (s : State) : Host.Outcome State Fault Refusal :=
  (exchange frame n st s).outcome

end Sys2Proof.Machine
end

