-- ==== Sys2Proof/Machine/Dispatch.lean ====
section
/-! DEFINITION. `exec`: one arm per instruction of the opcode table. -/

namespace Sys2Proof.Machine

def exec (i : Instr) (s : State) : Host.Outcome State Fault Refusal :=
  match i with
  | .sync => Sys2Proof.Machine.execSync s
  | .get => Sys2Proof.Machine.execGet s
  | .getVersion => Sys2Proof.Machine.execGetVersion s
  | .getId => Sys2Proof.Machine.execGetId s
  | .eraseCmd => Sys2Proof.Machine.execEraseCmd s
  | .eraseParam => Sys2Proof.Machine.execEraseParam s
  | .extEraseCmd => Sys2Proof.Machine.execExtEraseCmd s
  | .extEraseParam => Sys2Proof.Machine.execExtEraseParam s
  | .writeSetup => Sys2Proof.Machine.execWriteSetup s
  | .writeAddress address => Sys2Proof.Machine.execWriteAddress address s
  | .writePayload payload => Sys2Proof.Machine.execWritePayload payload s
  | .readSetup => Sys2Proof.Machine.execReadSetup s
  | .readAddress address => Sys2Proof.Machine.execReadAddress address s
  | .readLength => Sys2Proof.Machine.execReadLength s
  | .buildCommand opcode => Sys2Proof.Machine.execBuildCommand opcode s
  | .buildAddressFrame address => Sys2Proof.Machine.execBuildAddressFrame address s
  | .buildDataBlockFrame payload => Sys2Proof.Machine.execBuildDataBlockFrame payload s
  | .incrementAddress address => Sys2Proof.Machine.execIncrementAddress address s
  | .send bytes => Sys2Proof.Machine.execSend bytes s
  | .waitForBytes n timeout => Sys2Proof.Machine.execWaitForBytes n timeout s
  | .readBytes n => Sys2Proof.Machine.execReadBytes n s
  | .exchange frame n st => Sys2Proof.Machine.execExchange frame n st s
  | .enter => Sys2Proof.Machine.execEnter s
  | .openSession => Sys2Proof.Machine.execOpenSession s
  | .closeSession => Sys2Proof.Machine.execCloseSession s
  | .writePage => Sys2Proof.Machine.execWritePage s
  | .readPage => Sys2Proof.Machine.execReadPage s
  | .writeImage => Sys2Proof.Machine.execWriteImage s
  | .verifyImage => Sys2Proof.Machine.execVerifyImage s
  | .flashAndVerify => Sys2Proof.Machine.execFlashAndVerify s

end Sys2Proof.Machine
end

