-- ==== Sys2Proof/Machine/Step.lean ====
section
/-! DEFINITION. One step: a move of another agent, or the engine's turn, on which the hardwired sequence
either issues one command step or takes one action of its own (10_state.md R20, R25). -/

namespace Sys2Proof.Machine

/-- The engine's turn. -/
def engineStep (s : State) : Host.Outcome State Fault Refusal :=
  match dueStep s with
  | some st => mapNext (retireStep st) (exec (issue st s) s)
  | none => sequenceAction s

/-- One step of the machine. -/
def step (s : State) : Host.Outcome State Fault Refusal :=
  match otherTurn s with
  | some (m, t) => otherAction m t
  | none => engineStep (engineTurn s)

/-- `s` with the registers that hold an instruction's operand set to it: `ADDR` for format A, `PBUF` for
format D (R211, R212, R221). -/
def State.withOperand (s : State) (i : Instr) : State :=
  match i with
  | .writeAddress a => { s with addr := a }
  | .readAddress a => { s with addr := a }
  | .writePayload p => { s with pbuf := p }
  | _ => s

/-- `s` in which the hardwired sequence has reached the step whose frame is the table word `w`: its session
state and pass (R28), its operand registers, and the engine's turn next (log 12). -/
def State.withFetchWord (s : State) (nbits w : Nat) : State :=
  match decodeTableWord nbits w with
  | none => s
  | some i =>
    match i.stepId with
    | none => s
    | some st =>
      { s.withOperand i with
        sess := stepSession st, pass := stepPass st, ctl := .command st, env := .engine :: s.env }

end Sys2Proof.Machine
end

