-- ==== Sys2Proof/Safety.lean ====
section
/-! DEFINITION. The terms the statements use: the pages of the image and their addresses (20_memory.md R63),
runs of the engine, the moves the host contract allows, and the invariants of the machine. -/

namespace Sys2Proof.Machine

/-! ### The image and its pages -/

/-- `ceil(L/256)`, the number of pages of an image (R63). -/
def pageCount (image : List Byte) : Nat := (image.length + 255) / 256

/-- `page(p)`: 256 bytes of the image, zero-padded at its end (R63). -/
def pageBytes (image : List Byte) (p : Nat) : List Byte :=
  let chunk := (image.drop (256 * p)).take 256
  chunk ++ zeros (256 - chunk.length)

/-- `addr(p) = (BASE + 256*p) mod 2^32` (R63). -/
def pageAddress (base : Word32) (p : Nat) : FlashAddress := be32 (base + BitVec.ofNat 32 (256 * p))

/-- The bytes of one write-page transaction: setup, address and payload frames (R216, R100). -/
def writePageBytes (w : Wire) (a : FlashAddress) (page : List Byte) : List Byte :=
  [w.opcWrite, w.opcWrite ^^^ 0xFF] ++ [a.a0, a.a1, a.a2, a.a3, a.a0 ^^^ a.a1 ^^^ a.a2 ^^^ a.a3] ++
    (0xFF :: page ++ [xorAll (0xFF :: page)])

/-- The bytes of one read-page transaction: setup, address and length frames (R226, R100). -/
def readPageBytes (w : Wire) (a : FlashAddress) : List Byte :=
  [w.opcRead, w.opcRead ^^^ 0xFF] ++ [a.a0, a.a1, a.a2, a.a3, a.a0 ^^^ a.a1 ^^^ a.a2 ^^^ a.a3] ++
    [w.readFullPage.1, w.readFullPage.2]

/-- The sixteen bytes of the sync and setup frames, in order (R100, R176, R261). -/
def openBytes (w : Wire) : List Byte :=
  [w.sync, w.opcGet, w.opcGet ^^^ 0xFF, w.opcGetVersion, w.opcGetVersion ^^^ 0xFF, w.opcGetId,
    w.opcGetId ^^^ 0xFF, w.opcErase, w.opcErase ^^^ 0xFF, w.eraseAll.1, w.eraseAll.2, w.opcExtErase,
    w.opcExtErase ^^^ 0xFF, w.extEraseAll.1, w.extEraseAll.2.1, w.extEraseAll.2.2]

/-- The bytes a whole write pass sends: every page at its address, in ascending order (R63, R240). -/
def writePassBytes (w : Wire) (base : Word32) (image : List Byte) : List Byte :=
  (List.range (pageCount image)).flatMap fun p => writePageBytes w (pageAddress base p) (pageBytes image p)

/-- The bytes a whole verify pass sends (R63, R247). -/
def readPassBytes (w : Wire) (base : Word32) (image : List Byte) : List Byte :=
  (List.range (pageCount image)).flatMap fun p => readPageBytes w (pageAddress base p)

/-- The pages presented on the page-out port, in order: index, address and data (R43). -/
def pageOuts (trace : List Event) : List (Word32 × Word32 × List Byte) :=
  trace.filterMap fun e =>
    match e with
    | .pageOut page address data => some (page, address, data)
    | _ => none

/-- The bytes consumed from `RXQ` (R261). -/
def consumedBytes (trace : List Event) : Nat :=
  (trace.map fun e =>
    match e with
    | .rx bytes => bytes.length
    | _ => 0).sum

/-- The exchanges begun: one `Tx` each (R153, R261). -/
def exchangeCount (trace : List Event) : Nat :=
  trace.countP fun e =>
    match e with
    | .tx _ => true
    | _ => false

/-- The line events, in order (R170, R261). -/
def lineEvents (trace : List Event) : List Event :=
  trace.filter fun e =>
    match e with
    | .gpio _ _ => true
    | .delay _ => true
    | _ => false

/-- The source events, in order (R62, R261). -/
def sourceEvents (trace : List Event) : List Event :=
  trace.filter fun e =>
    match e with
    | .srcRewind => true
    | .srcRead _ => true
    | _ => false

/-- The source events of one completed pass: a rewind, a `SrcRead` for every page, and one that returns no
bytes (R62, R261). -/
def passReads (image : List Byte) : List Event :=
  .srcRewind :: (List.range (pageCount image)).map (fun p => .srcRead ((image.drop (256 * p)).take 256)) ++
    [.srcRead []]

/-! ### Runs -/

/-- `k` turns of the engine with no move of another agent between them (inside a wait the others move). -/
def engineRun : Nat → State → Host.Outcome State Fault Refusal
  | 0, s => .next s
  | k + 1, s =>
    match engineStep s with
    | .next t => engineRun k t
    | .fault f => .fault f
    | .refused r => .refused r

/-- The moves that the host contract allows while a session is open (R326 to R328). -/
def EnvMove.keepsContract : EnvMove → Bool
  | .engine => true
  | .timer => true
  | .target _ => true
  | .start _ => true
  | .abort _ => true
  | .attach _ _ => false
  | .takeLink _ => false
  | .driveLines => false
  | .reset => true

/-- The other agents keep the contract in all their moves to come. -/
def contractKept (s : State) : Prop := ∀ m ∈ s.env, m.keepsContract = true

/-- No reset of the engine is to come. -/
def noReset (s : State) : Prop := EnvMove.reset ∉ s.env

/-- The engine is idle and the lines are released: where an operation can start (R258, R172). -/
def atRest (s : State) : Prop :=
  s.ctl = .rest ∧ s.busy = false ∧ s.sess = .idle ∧ s.own = false

/-! ### What an acknowledged exchange leaves -/

/-- The state after a step whose frame was sent and whose `n` response bytes, the head of `RXQ`, were
consumed: R153 with R150 and R152, written out. -/
def exchanged (frame : List Byte) (n : Nat) (st : StepId) (s : State) : State :=
  { s with
    step := some st
    tx := s.tx ++ frame
    rxq := s.rxq.drop n
    rxbuf := (s.rxq.take n ++ s.rxbuf.drop (s.rxq.take n).length).take 257
    rxLen := BitVec.ofNat 9 n
    trace := s.trace ++ [.tx frame] ++ [.rx (s.rxq.take n)] }

/-- The queue answers an exchange of `n` bytes: all `n` are there and the first is `ACK` (R97, R153). -/
def answered (n : Nat) (s : State) : Prop := n ≤ s.rxq.length ∧ s.rxq.head? = some s.cfg.wire.ack

/-- What every command step leaves as it is, whatever its response (R153, R285): all but `STEP`, `TX`,
`RXQ`, `RXBUF`, `RXLEN`, the failure record and `SESS` on a failure, the trace, the position and what the
other agents move. -/
def stepFrame (s t : State) : Prop :=
  t.addr = s.addr ∧ t.pbuf = s.pbuf ∧ t.chunkLen = s.chunkLen ∧ t.pass = s.pass ∧ t.pageIdx = s.pageIdx ∧
    t.wAtt = s.wAtt ∧ t.wOk = s.wOk ∧ t.vAtt = s.vAtt ∧ t.vOk = s.vOk ∧ t.resOk = s.resOk ∧
    t.busy = s.busy ∧ t.own = s.own ∧ t.rstLine = s.rstLine ∧ t.modeLine = s.modeLine ∧
    t.cfg = s.cfg ∧ t.unitOut = s.unitOut ∧
    (s.busy = true → t.src = s.src) ∧
    (s.contractViol = true → t.contractViol = true)

/-- What an exchange of `n` response bytes leaves, however it ends short of a reset (R153, R284, R285, R23):
`stepFrame`; `RXBUF` from index `n` on; `SESS`, but for `Faulted` in the setup pass; the failure record, if
one stood there; and the position, but for the close sequence. -/
def exchangeFrame (n : Nat) (st : StepId) (s t : State) : Prop :=
  stepFrame s t ∧ t.step = some st ∧ (∀ i, n ≤ i → t.rxbuf[i]? = s.rxbuf[i]?) ∧
    (t.sess = s.sess ∨ (t.sess = .faulted ∧ s.pass = .setup)) ∧ (t.ctl = s.ctl ∨ t.ctl = .closing 0) ∧
    ((t.failReason = s.failReason ∧ t.failPass = s.failPass ∧ t.failStep = s.failStep ∧
        t.failPage = s.failPage) ∨
      (s.failReason = .none ∧ t.failReason ≠ .none ∧ t.failPass = s.pass ∧ t.failStep = some st))

/-- What every pass leaves (R240, R247): result flag, ownership, lines, parameters; while the engine is busy
the image; a set `CONTRACT_VIOL`. -/
def passFrame (s t : State) : Prop :=
  t.resOk = s.resOk ∧ t.busy = s.busy ∧ t.own = s.own ∧ t.rstLine = s.rstLine ∧ t.modeLine = s.modeLine ∧
    t.cfg = s.cfg ∧ t.unitOut = s.unitOut ∧
    (s.busy = true → t.src.bytes = s.src.bytes) ∧
    (s.contractViol = true → t.contractViol = true)

/-! ### Invariants -/

/-- The register arrays keep their sizes, the lengths their ranges and the source its position (R21 to R23,
R42, R8). -/
def Shape (s : State) : Prop :=
  s.pbuf.length = 256 ∧ s.rxbuf.length = 257 ∧ s.chunkLen.toNat ≤ 256 ∧ s.rxLen.toNat ≤ 257 ∧
    s.src.pos ≤ s.src.bytes.length ∧ s.src.bytes.length < 2 ^ 32

/-- The lines as they stand while the target is held in its bootloader (R172, R188). -/
def inBootloader (s : State) : Prop := s.busy = true ∧ s.own = true ∧ s.rstLine = true ∧ s.modeLine = true

/-- The position of the hardwired sequence agrees with the session, pass, ownership and line registers
(R28, R172, R177, R182, R184, R187, R188). -/
def SequenceAt (s : State) : Prop :=
  match s.ctl with
  | .rest =>
    s.busy = false ∧ s.sess = .idle ∧ s.own = false ∧ s.pass = .none ∧ s.step = none ∧
      s.rstLine = true ∧ s.modeLine = false
  | .entering k =>
    k < 6 ∧ s.busy = true ∧ s.sess = .idle ∧ s.own = decide (1 ≤ k) ∧ s.pass = .none ∧ s.step = none ∧
      s.failReason = .none ∧ s.modeLine = decide (2 ≤ k) ∧ s.rstLine = !(decide (k = 3) || decide (k = 4))
  | .command st =>
    inBootloader s ∧ s.sess = stepSession st ∧ s.pass = stepPass st ∧ s.failReason = .none
  | .startPass false => inBootloader s ∧ s.sess = .ready ∧ s.pass = .setup ∧ s.failReason = .none
  | .startPass true =>
    inBootloader s ∧ s.sess = .transferring ∧ s.pass = .write ∧ s.failReason = .none ∧ s.cfg.verifyEn = true
  | .startPage verify =>
    inBootloader s ∧ s.sess = .transferring ∧ s.pass = loopPass verify ∧ s.failReason = .none
  | .finishPage verify =>
    inBootloader s ∧ s.sess = .transferring ∧ s.pass = loopPass verify ∧ s.failReason = .none
  | .closing k =>
    k < 7 ∧ s.busy = true ∧ s.own = true ∧
      (k = 0 → s.sess = .transferring ∨ (s.sess = .faulted ∧ s.failReason ≠ .none)) ∧
      (1 ≤ k → s.sess = .closing ∧ s.pass = .none ∧ s.step = none) ∧
      s.modeLine = decide (k ≤ 2) ∧ s.rstLine = (decide (k ≤ 1) || decide (k = 6))
  | .finish =>
    s.busy = true ∧ s.sess = .idle ∧ s.own = false ∧ s.pass = .none ∧ s.step = none ∧
      s.rstLine = true ∧ s.modeLine = false

/-- The sequence invariant: the position agrees with the registers; while `BUSY = 1`, `RES_OK` holds 0 (R33). -/
def SequenceInv (s : State) : Prop :=
  SequenceAt s ∧ (s.busy = true → s.resOk = false)

/-- All four page counters are 0 (R32, R258). -/
def countersClear (s : State) : Prop := s.wAtt = 0 ∧ s.wOk = 0 ∧ s.vAtt = 0 ∧ s.vOk = 0

/-- The counters of a pass at a page boundary and inside a page: `x_OK = PAGEIDX`, and `x_ATT` is the same
or one more (R32, R242, R244, R250). In the write pass the verify counters are 0; in the verify pass the
write counters are equal. -/
def countersAt (verify inside : Bool) (s : State) : Prop :=
  if verify then
    s.wAtt = s.wOk ∧ s.vOk = s.pageIdx ∧ s.vAtt = s.pageIdx + (if inside then 1 else 0)
  else
    s.vAtt = 0 ∧ s.vOk = 0 ∧ s.wOk = s.pageIdx ∧ s.wAtt = s.pageIdx + (if inside then 1 else 0)

/-- Between two pages: the address, the source position and the counters are those of page `PAGEIDX`. -/
def betweenPages (verify : Bool) (s : State) : Prop :=
  s.addr = pageAddress s.cfg.base s.pageIdx.toNat ∧
    s.src.pos = min (256 * s.pageIdx.toNat) s.src.bytes.length ∧ countersAt verify false s

/-- Inside page `PAGEIDX`: the page exists, the address is its own, its chunk has been read, and in the
write pass `PBUF` holds its 256 bytes (R63, R243, R244, R250). -/
def insidePage (verify : Bool) (s : State) : Prop :=
  s.addr = pageAddress s.cfg.base s.pageIdx.toNat ∧
    256 * s.pageIdx.toNat < s.src.bytes.length ∧
    s.src.pos = min (256 * (s.pageIdx.toNat + 1)) s.src.bytes.length ∧ countersAt verify true s ∧
    (verify = false → s.pbuf = pageBytes s.src.bytes s.pageIdx.toNat ∧
      s.chunkLen.toNat = min 256 (s.src.bytes.length - 256 * s.pageIdx.toNat))

/-- The page invariant: which page the engine is at, and that address, source position, counters and page
buffer are that page's. -/
def PageInv (s : State) : Prop :=
  match s.ctl with
  | .entering _ => countersClear s
  | .command st =>
    match stepPass st with
    | .write => insidePage false s
    | .verify => insidePage true s
    | _ => countersClear s
  | .startPass false => countersClear s
  | .startPass true => s.wAtt = s.wOk ∧ s.vAtt = 0 ∧ s.vOk = 0
  | .startPage verify => betweenPages verify s
  | .finishPage verify => insidePage verify s
  | _ => True

end Sys2Proof.Machine
end

