-- ==== Sys2Proof/Certificates/Slice0/Obligations.lean ====
section
/-! DEFINITION. The statements for the provers. Each docstring names the rules of spec/ it rests on; where a
clause rests on a choice of the model, it says so and names the log entry. -/

open Sys2Proof Sys2Proof.Machine

/-! ### Reset and the step -/

/-- What reset leaves (R50, R320): every value the spec gives, and no action on leaving reset: with no
`START` the engine stays as it is. -/
def Obligations.ResetLeavesTheEngineIdle : Prop :=
  State.reset.sess = .idle ∧ State.reset.pass = .none ∧ State.reset.step = none ∧ State.reset.pageIdx = 0 ∧
    State.reset.busy = false ∧ State.reset.resOk = false ∧ State.reset.contractViol = false ∧
    State.reset.failReason = .none ∧ State.reset.failPass = .none ∧ State.reset.failStep = none ∧
    State.reset.failPage = 0 ∧ State.reset.wAtt = 0 ∧ State.reset.wOk = 0 ∧ State.reset.vAtt = 0 ∧
    State.reset.vOk = 0 ∧ State.reset.own = false ∧ State.reset.rstLine = true ∧
    State.reset.modeLine = false ∧ State.reset.rxLen = 0 ∧ State.reset.chunkLen = 0 ∧
    step State.reset = .next State.reset

/-- A step runs the fetched instruction: with the frame of a table word placed (log 12), the next step is
`exec` of the instruction that frame is, and then the sequence goes on (R25, R187). -/
def Obligations.StepRunsThePlacedInstruction : Prop :=
  ∀ (s : State) (nbits w : Nat) (i : Instr) (st : StepId),
    decodeTableWord nbits w = some i → i.stepId = some st →
      i.wf = true ∧
        step (s.withFetchWord nbits w) =
          mapNext (retireStep st) (exec i (engineTurn (s.withFetchWord nbits w)))

/-- A step runs the due instruction: on the engine's turn with the step `st` due, the frame the engine will
send decodes, as the frame of that step, to the instruction issued with the registers as operands (R98,
R211, R212, R221), and the step is `exec` of it, after which the sequence goes on (R25). -/
def Obligations.StepRunsTheDueInstruction : Prop :=
  ∀ (s : State) (st : StepId), otherTurn s = none → dueStep (engineTurn s) = some st →
    (engineTurn s).pbuf.length = 256 →
      ∃ bs, encode s.cfg.wire (issue st (engineTurn s)) = some bs ∧
        decode s.cfg.wire [st] bs = .ok (issue st (engineTurn s)) ∧
        step s = mapNext (retireStep st) (exec (issue st (engineTurn s)) (engineTurn s))

/-! ### Encoding -/

/-- Words of the opcode table, read by the decoder (R99, R100), at least one for each of the formats S, C, P,
A and D. The bytes are those of the default `WIRE` record (log 1, PRESUMED), and that a five-byte word reads
as `WriteAddress` is the model's order of the rows (log 13, DEDUCED). -/
def Obligations.TableWordsDecode : Prop :=
  decodeTableWord 8 0x7F = some .sync ∧ decodeTableWord 16 0x00FF = some .get ∧
    decodeTableWord 16 0x43BC = some .eraseCmd ∧ decodeTableWord 24 0xFFFF00 = some .extEraseParam ∧
    decodeTableWord 16 0x31CE = some .writeSetup ∧ decodeTableWord 16 0x11EE = some .readSetup ∧
    decodeTableWord 16 0xFF00 = some .eraseParam ∧
    decodeTableWord 40 0x0800010009 = some (.writeAddress ⟨0x08, 0x00, 0x01, 0x00⟩) ∧
    decodeTableWord 2064 (0xFF11223344 * 256 ^ 253 + 0xBB) =
      some (.writePayload ([0x11, 0x22, 0x33, 0x44] ++ zeros 252)) ∧
    decodeTableWord 16 0x43BD = none ∧ decodeTableWord 40 0x0800010008 = none

/-- Decode and encode agree (R90 to R95, R98, R100): every well-formed frame instruction, with every operand
and every `WIRE` record, is read back from its frame by the step it belongs to. -/
def Obligations.DecodeReadsWhatEncodeWrites : Prop :=
  ∀ (w : Wire) (i : Instr) (st : StepId), i.wf = true → i.stepId = some st →
    ∃ bs, encode w i = some bs ∧ decode w [st] bs = .ok i

/-- The other direction: a byte sequence that decodes is the frame of the instruction it decodes to, and
that instruction is well-formed; no other bytes are accepted (R99, R101, R231). -/
def Obligations.EncodeWritesWhatDecodeReads : Prop :=
  ∀ (w : Wire) (steps : List StepId) (bs : List Byte) (i : Instr), decode w steps bs = .ok i →
    i.wf = true ∧ encode w i = some bs

/-- Which frames the step sequence is needed for (R102): with the default `WIRE` record, the whole table
reads every frame back but those of `ReadLength` and `ReadAddress`, which are the frames of `EraseParam`
and `WriteAddress`; the steps of one pass read all of theirs back. R102 says only that frames coincide; that
the table then answers its first row is the model's choice (log 13, DEDUCED), on the default bytes of log 1. -/
def Obligations.OnlyTwoPairsOfFramesCoincide : Prop :=
  ∀ (i : Instr) (st : StepId) (bs : List Byte), i.wf = true → i.stepId = some st →
    encode Wire.standard i = some bs →
      decode Wire.standard (allSteps.filter fun x => stepPass x = stepPass st) bs = .ok i ∧
        (match i with
          | .readLength => decode Wire.standard allSteps bs = .ok .eraseParam
          | .readAddress a => decode Wire.standard allSteps bs = .ok (.writeAddress a)
          | _ => decode Wire.standard allSteps bs = .ok i)

/-! ### Frame codec -/

/-- `buildCommand` answers the opcode and its complement, two bytes that are never equal, and changes no
register (R132). -/
def Obligations.BuildCommandAnswersTheFrame : Prop :=
  ∀ (op : Byte) (s : State),
    exec (.buildCommand op) s = .next { s with unitOut := .frame [op, op ^^^ 0xFF] } ∧ op ≠ op ^^^ 0xFF

/-- `buildAddressFrame` answers the four address bytes and their XOR, and changes no register (R133). -/
def Obligations.BuildAddressFrameAnswersTheFrame : Prop :=
  ∀ (a : FlashAddress) (s : State),
    exec (.buildAddressFrame a) s =
      .next { s with unitOut := .frame [a.a0, a.a1, a.a2, a.a3, a.a0 ^^^ a.a1 ^^^ a.a2 ^^^ a.a3] }

/-- `buildDataBlockFrame` answers, for 1 to 256 bytes, a frame of `N + 2` bytes that is the length byte
`N - 1`, the payload and the XOR of both, and outside that range `InvalidPayloadSize`; no register
changes (R134, R135). -/
def Obligations.BuildDataBlockFrameAnswersTheFrame : Prop :=
  ∀ (payload : List Byte) (s : State),
    (1 ≤ payload.length ∧ payload.length ≤ 256 →
      ∃ (n cs : Byte), n.toNat = payload.length - 1 ∧ xorAll (n :: payload ++ [cs]) = 0 ∧
        exec (.buildDataBlockFrame payload) s = .next { s with unitOut := .frame (n :: payload ++ [cs]) }) ∧
    (payload.length = 0 ∨ 256 < payload.length →
      exec (.buildDataBlockFrame payload) s = .next { s with unitOut := .invalidPayloadSize })

/-- Every frame the codec builds is well-formed (R139). -/
def Obligations.BuiltFramesAreWellFormed : Prop :=
  (∀ op, wellFormedCommand (buildCommand op) = true) ∧
    (∀ a, wellFormedAddress (buildAddressFrame a) = true) ∧
    (∀ payload f, buildDataBlockFrame payload = some f → wellFormedDataBlock f = true)

/-- `incrementAddress` answers the address 256 further on, modulo 2^32, with byte 3 as it was; no register
changes (R136, R137). -/
def Obligations.IncrementAddressAnswersTheNextPage : Prop :=
  ∀ (a : FlashAddress) (s : State), ∃ r : FlashAddress,
    exec (.incrementAddress a) s = .next { s with unitOut := .address r } ∧
      val32 r = val32 a + 256 ∧ r.a3 = a.a3

/-- `incrementAddress` applied `k` times adds `256 * k` modulo 2^32 (R137): so 256 times adds 65536, and
2^24 times comes back. -/
def Obligations.IncrementAddressAddsUp : Prop :=
  ∀ (v : Word32) (k : Nat), incrementAddress^[k] (be32 v) = be32 (v + BitVec.ofNat 32 (256 * k))

/-! ### Transport -/

/-- `Send` appends every byte to `TX`, in order, emits the event and answers the count (R150). -/
def Obligations.SendAppendsEveryByte : Prop :=
  ∀ (bytes : List Byte) (s : State),
    exec (.send bytes) s = .next { s with
      tx := s.tx ++ bytes
      trace := s.trace ++ [.tx bytes]
      unitOut := .byteCount bytes.length }

/-- `WaitForBytes` with the bytes already queued answers at once, whatever the schedule holds, and consumes
nothing (R151). -/
def Obligations.WaitAnswersAtOnceWhenBytesAreQueued : Prop :=
  ∀ (n : Nat) (s : State), n ≤ s.rxq.length →
    exec (.waitForBytes n .serial) s = .next { s with unitOut := .avail s.rxq.length }

/-- The two outcomes of `WaitForBytes` and their enabling conditions (R151): `Avail(k)` only with `k`, at
least `n`, bytes queued, `Timeout` only with fewer than `n`; and while the session owns the link no queued
byte is consumed, and no register changes but those the other agents write meanwhile. The link is owned
while `OWN = 1` (R35) and, by the host contract, while `BUSY = 1` (R46). -/
def Obligations.WaitOutcomesHaveTheirConditions : Prop :=
  ∀ (n : Nat) (s t : State), exec (.waitForBytes n .serial) s = .next t → noReset s →
    s.own = true ∨ s.busy = true →
    s.rxq <+: t.rxq ∧
      ((t.unitOut = .avail t.rxq.length ∧ n ≤ t.rxq.length) ∨ (t.unitOut = .timeout ∧ t.rxq.length < n)) ∧
      stepFrame s { t with unitOut := s.unitOut } ∧ t.step = s.step ∧ t.rxbuf = s.rxbuf ∧
      t.rxLen = s.rxLen ∧ t.sess = s.sess ∧ t.tx = s.tx ∧ t.trace = s.trace ∧ t.ctl = s.ctl ∧
      t.failReason = s.failReason ∧ t.failPass = s.failPass ∧ t.failStep = s.failStep ∧
      t.failPage = s.failPage

/-- `ReadBytes` takes exactly the `n` oldest bytes into `RXBUF`, whose other registers keep their value
(R152, R23), where the host reads them with their number `RXLEN` (R23; log 25); with fewer queued it is
refused (R332; log 16). -/
def Obligations.ReadBytesTakesTheOldest : Prop :=
  ∀ (n : Nat) (s : State),
    (n ≤ s.rxq.length → n ≤ 257 → s.rxbuf.length = 257 →
      exec (.readBytes n) s = .next { s with
        rxq := s.rxq.drop n
        rxbuf := s.rxq.take n ++ s.rxbuf.drop n
        rxLen := BitVec.ofNat 9 n
        trace := s.trace ++ [.rx (s.rxq.take n)]
        unitOut := .bytes (s.rxq.take n) }) ∧
    (∀ t, n ≤ 257 → s.rxbuf.length = 257 → exec (.readBytes n) s = .next t →
      (hostRxLen t).toNat = n ∧ (∀ i, i < n → hostRxbuf t i = s.rxq[i]?) ∧
        ∀ i, n ≤ i → hostRxbuf t i = hostRxbuf s i) ∧
    (s.rxq.length < n → exec (.readBytes n) s = .refused .readBytesUnderflow)

/-- `Exchange` with an acknowledgment in the queue sends, consumes and goes on (R153). -/
def Obligations.ExchangeAcknowledgedGoesOn : Prop :=
  ∀ (frame : List Byte) (n : Nat) (st : StepId) (s : State), 1 ≤ n → answered n s →
    exec (.exchange frame n st) s = .next (exchanged frame n st s)

/-- `Exchange` whose answer TARGET appends while the engine waits (R151, R153). -/
def Obligations.ExchangeTakesAnAnswerThatComesLater : Prop :=
  ∀ (frame : List Byte) (n : Nat) (st : StepId) (s : State) (bytes : List Byte) (later : List EnvMove),
    s.env = .target bytes :: later → s.rxq.length < n → answered n { s with rxq := s.rxq ++ bytes } →
      exec (.exchange frame n st) s =
        .next (exchanged frame n st { s with rxq := s.rxq ++ bytes, env := later })

/-- `Exchange` whose wait the timer ends: nothing is consumed, and `Timeout` is recorded (R153, R281,
R284). -/
def Obligations.ExchangeTimesOut : Prop :=
  ∀ (frame : List Byte) (n : Nat) (st : StepId) (s : State) (later : List EnvMove),
    s.env = .timer :: later → s.rxq.length < n → s.failReason = .none →
      exec (.exchange frame n st) s = .next { s with
        step := some st
        tx := s.tx ++ frame
        trace := s.trace ++ [.tx frame]
        env := later
        failReason := .timeout
        failPass := s.pass
        failStep := some st
        failPage := if s.pass = .write ∨ s.pass = .verify then s.pageIdx else 0
        sess := if s.pass = .setup then .faulted else s.sess
        ctl := .closing 0 }

/-- `Exchange` whose response does not begin with `ACK`: all `n` bytes are consumed, and `ProtocolNack` is
recorded whatever the byte is (R97, R153, R282, R284). -/
def Obligations.ExchangeRejected : Prop :=
  ∀ (frame : List Byte) (n : Nat) (st : StepId) (s : State), 1 ≤ n → n ≤ s.rxq.length →
    s.rxq.head? ≠ some s.cfg.wire.ack → s.failReason = .none →
      exec (.exchange frame n st) s = .next { exchanged frame n st s with
        failReason := .protocolNack
        failPass := s.pass
        failStep := some st
        failPage := if s.pass = .write ∨ s.pass = .verify then s.pageIdx else 0
        sess := if s.pass = .setup then .faulted else s.sess
        ctl := .closing 0 }

/-- Once and no retry (R154, R155): however an exchange ends, `TX` has grown by its frame and by nothing
else; and short of a reset all state that R153 and R284 do not name is as it was. -/
def Obligations.ExchangeSendsItsFrameOnce : Prop :=
  ∀ (frame : List Byte) (n : Nat) (st : StepId) (s t : State),
    exec (.exchange frame n st) s = .next t →
      t.tx = s.tx ++ frame ∧ (noReset s → s.rxbuf.length = 257 → exchangeFrame n st s t)

/-! ### Command steps -/

/-- `Sync` with its acknowledgment in the queue (R200, R91). -/
def Obligations.SyncAcknowledged : Prop :=
  ∀ s : State, s.sess = .modeAsserted → answered 1 s →
    exec .sync s = .next (exchanged [s.cfg.wire.sync] 1 .sync s)

/-- The seven setup steps with their acknowledgments in the queue: frames and response lengths (R201 to
R207). -/
def Obligations.SetupStepsAcknowledged : Prop :=
  ∀ s : State, s.sess = .synced →
    (answered 15 s →
      exec .get s = .next (exchanged [s.cfg.wire.opcGet, s.cfg.wire.opcGet ^^^ 0xFF] 15 .get s)) ∧
    (answered 5 s → exec .getVersion s =
      .next (exchanged [s.cfg.wire.opcGetVersion, s.cfg.wire.opcGetVersion ^^^ 0xFF] 5 .getVersion s)) ∧
    (answered 5 s →
      exec .getId s = .next (exchanged [s.cfg.wire.opcGetId, s.cfg.wire.opcGetId ^^^ 0xFF] 5 .getId s)) ∧
    (answered 1 s →
      exec .eraseCmd s = .next (exchanged [s.cfg.wire.opcErase, s.cfg.wire.opcErase ^^^ 0xFF] 1 .eraseCmd s)) ∧
    (answered 1 s →
      exec .eraseParam s = .next (exchanged [s.cfg.wire.eraseAll.1, s.cfg.wire.eraseAll.2] 1 .eraseParam s)) ∧
    (answered 1 s → exec .extEraseCmd s =
      .next (exchanged [s.cfg.wire.opcExtErase, s.cfg.wire.opcExtErase ^^^ 0xFF] 1 .extEraseCmd s)) ∧
    (answered 1 s → exec .extEraseParam s =
      .next (exchanged [s.cfg.wire.extEraseAll.1, s.cfg.wire.extEraseAll.2.1, s.cfg.wire.extEraseAll.2.2] 1
        .extEraseParam s))

/-- The three write-memory steps with their acknowledgments in the queue (R210 to R212): the payload frame
is `FF`, the 256 bytes and the XOR of all of these. -/
def Obligations.WriteStepsAcknowledged : Prop :=
  ∀ (s : State) (a : FlashAddress) (payload : List Byte), s.sess = .transferring → answered 1 s →
    payload.length = 256 →
      exec .writeSetup s =
        .next (exchanged [s.cfg.wire.opcWrite, s.cfg.wire.opcWrite ^^^ 0xFF] 1 .writeSetup s) ∧
      exec (.writeAddress a) s =
        .next (exchanged [a.a0, a.a1, a.a2, a.a3, a.a0 ^^^ a.a1 ^^^ a.a2 ^^^ a.a3] 1 .writeAddress s) ∧
      exec (.writePayload payload) s =
        .next (exchanged (0xFF :: payload ++ [xorAll (0xFF :: payload)]) 1 .writePayload s)

/-- The three read-memory steps with their acknowledgments in the queue (R220, R221, R225). -/
def Obligations.ReadStepsAcknowledged : Prop :=
  ∀ (s : State) (a : FlashAddress), s.sess = .transferring →
    (answered 1 s → exec .readSetup s =
      .next (exchanged [s.cfg.wire.opcRead, s.cfg.wire.opcRead ^^^ 0xFF] 1 .readSetup s)) ∧
    (answered 1 s → exec (.readAddress a) s =
      .next (exchanged [a.a0, a.a1, a.a2, a.a3, a.a0 ^^^ a.a1 ^^^ a.a2 ^^^ a.a3] 1 .readAddress s)) ∧
    (answered 257 s → exec .readLength s =
      .next (exchanged [s.cfg.wire.readFullPage.1, s.cfg.wire.readFullPage.2] 257 .readLength s))

/-- A step of any kind whose wait the timer ends (R281, R284, R285, R185): the whole request is sent, nothing
is consumed, the record names reason, pass, step and page, `SESS` goes to `Faulted` in the setup pass and
stays `Transferring` in a page pass, and control goes to the close sequence. -/
def Obligations.AnyStepThatTimesOutIsRecorded : Prop :=
  ∀ (st : StepId) (s : State) (later : List EnvMove), s.sess = stepSession st → s.pass = stepPass st →
    s.failReason = .none → s.pbuf.length = 256 → s.env = .timer :: later → s.rxq.length < ackLen st →
      ∃ frame t, encode s.cfg.wire (issue st s) = some frame ∧ exec (issue st s) s = .next t ∧
        t.tx = s.tx ++ frame ∧ t.rxq = s.rxq ∧ t.rxbuf = s.rxbuf ∧ t.rxLen = s.rxLen ∧
        t.failReason = .timeout ∧ t.failPass = stepPass st ∧ t.failStep = some st ∧
        t.failPage = (if stepPass st = .setup then 0 else s.pageIdx) ∧
        t.sess = (if stepPass st = .setup then .faulted else .transferring) ∧ t.ctl = .closing 0 ∧
        stepFrame s t

/-- A step of any kind whose full response does not begin with `ACK` (R282, R284, R285, R185): as a timeout,
but the response is consumed and its first byte stays readable in `RXBUF[0]`. -/
def Obligations.AnyStepThatIsRejectedIsRecorded : Prop :=
  ∀ (st : StepId) (s : State), s.sess = stepSession st → s.pass = stepPass st → s.failReason = .none →
    s.pbuf.length = 256 → ackLen st ≤ s.rxq.length → s.rxq.head? ≠ some s.cfg.wire.ack →
      ∃ frame t, encode s.cfg.wire (issue st s) = some frame ∧ exec (issue st s) s = .next t ∧
        t.tx = s.tx ++ frame ∧ t.rxq = s.rxq.drop (ackLen st) ∧ t.rxbuf.head? = s.rxq.head? ∧
        t.failReason = .protocolNack ∧ t.failPass = stepPass st ∧ t.failStep = some st ∧
        t.failPage = (if stepPass st = .setup then 0 else s.pageIdx) ∧
        t.sess = (if stepPass st = .setup then .faulted else .transferring) ∧ t.ctl = .closing 0 ∧
        stepFrame s t

/-- The frame of the fourteen command steps (R200 to R225, R285): however a step ends, short of a reset, all
registers but those its rule names are as they were; `RXBUF` keeps the registers from the response length
on; `SESS` changes to `Faulted` only, and in the setup pass only; the record changes only if none was
there; no byte of the image changes while the engine is busy. -/
def Obligations.CommandStepsKeepAllOtherState : Prop :=
  ∀ (st : StepId) (s t : State), exec (issue st s) s = .next t → noReset s → s.rxbuf.length = 257 →
    exchangeFrame (ackLen st) st s t

/-- A step issued in another session state than the table lists is refused (R230; 93 U5; log 15). -/
def Obligations.CommandStepsOutOfPlaceAreRefused : Prop :=
  ∀ (st : StepId) (s : State), s.sess ≠ stepSession st → exec (issue st s) s = .refused .stepOutsideSession

/-- `WritePayload` of a payload no data block can hold (R287): nothing is sent, nothing is awaited, and
`Fail(InvalidPayloadSize, WritePayload)` is raised. That `STEP` names the step is the model's reading of
R28, "the command step in progress" (log 24, DEDUCED): R287 does not say it. -/
def Obligations.WritePayloadOfABadSizeSendsNothing : Prop :=
  ∀ (payload : List Byte) (s : State), payload.length = 0 ∨ 256 < payload.length →
    s.sess = .transferring → s.pass = .write → s.failReason = .none →
      exec (.writePayload payload) s = .next { s with
        step := some .writePayload
        failReason := .invalidPayloadSize
        failPass := .write
        failStep := some .writePayload
        failPage := s.pageIdx
        ctl := .closing 0 }

/-! ### Session -/

/-- `enter` (R172): the lines in order, ownership, and `Idle -> ModeAsserted`. -/
def Obligations.EnterForcesTheBootloader : Prop :=
  ∀ s : State, s.sess = .idle → s.own = false →
    exec .enter s = .next { s with
      own := true
      modeLine := true
      rstLine := true
      sess := .modeAsserted
      pass := .setup
      trace := s.trace ++ [.gpio .mode true, .gpio .rst false, .delay .settle, .gpio .rst true] }

/-- `closeSession` (R182): the five line events in order, the lines at their resting levels, ownership given
up, `Idle`; nothing else changes, the failure record and the counters included. -/
def Obligations.CloseSessionReleasesTheTarget : Prop :=
  ∀ s : State, s.own = true →
    exec .closeSession s = .next { s with
      own := false
      modeLine := false
      rstLine := true
      sess := .idle
      pass := .none
      step := none
      trace := s.trace ++
        [.gpio .rst false, .gpio .mode false, .gpio .rst false, .delay .settle, .gpio .rst true] }

/-- `openSession` with every response in the queue and each one beginning with `ACK` (R176, R178): the
sixteen bytes in order, thirty bytes consumed, `Ready`, no failure, and no page register touched. -/
def Obligations.OpenSessionReachesReady : Prop :=
  ∀ s : State, s.sess = .idle → s.own = false → 30 ≤ s.rxq.length →
    (∀ i ∈ [0, 1, 16, 21, 26, 27, 28, 29], s.rxq[i]? = some s.cfg.wire.ack) →
      ∃ t, exec .openSession s = .next t ∧ t.sess = .ready ∧ t.pass = .setup ∧
        t.step = some .extEraseParam ∧ t.own = true ∧ t.modeLine = true ∧ t.rstLine = true ∧
        t.tx = s.tx ++ openBytes s.cfg.wire ∧ t.rxq = s.rxq.drop 30 ∧ t.rxLen = 1 ∧
        t.failReason = s.failReason ∧ t.addr = s.addr ∧ t.pbuf = s.pbuf ∧ t.src = s.src ∧
        t.pageIdx = s.pageIdx ∧ t.wAtt = s.wAtt ∧ t.vAtt = s.vAtt ∧ t.env = s.env

/-- `openSession` however it goes, short of a reset (R174 to R176, R184): it ends in `Ready` with all frames
sent and no failure, or in `Faulted` with the record naming the setup pass and the step in progress, and
then what was sent is a leading part of the same sixteen bytes. -/
def Obligations.OpenSessionEndsReadyOrFaulted : Prop :=
  ∀ s t : State, s.sess = .idle → s.own = false → s.failReason = .none → noReset s →
    exec .openSession s = .next t →
      (t.sess = .ready ∧ t.failReason = .none ∧ t.tx = s.tx ++ openBytes s.cfg.wire) ∨
        (t.sess = .faulted ∧ t.failReason ≠ .none ∧ t.failPass = .setup ∧ t.failStep = t.step ∧
          t.failPage = 0 ∧ t.ctl = .closing 0 ∧
          ∃ sent rest, t.tx = s.tx ++ sent ∧ openBytes s.cfg.wire = sent ++ rest)

/-! ### Pages and passes -/

/-- `writePage` with its three acknowledgments in the queue (R216): 265 bytes, the current `ADDR` and
`PBUF`, neither of which changes. -/
def Obligations.WritePageSendsThePage : Prop :=
  ∀ s : State, s.sess = .transferring → s.pbuf.length = 256 →
    (∀ i ∈ [0, 1, 2], s.rxq[i]? = some s.cfg.wire.ack) →
      ∃ t, exec .writePage s = .next t ∧ t.tx = s.tx ++ writePageBytes s.cfg.wire s.addr s.pbuf ∧
        t.rxq = s.rxq.drop 3 ∧ t.step = some .writePayload ∧ t.sess = .transferring ∧
        t.failReason = s.failReason ∧ t.ctl = s.ctl ∧ t.env = s.env ∧ t.abort = s.abort ∧ stepFrame s t

/-- `readPage` with its three acknowledgments and the page in the queue (R226): nine bytes sent, 259
consumed, the page in `RXBUF[1..256]`. -/
def Obligations.ReadPageFetchesThePage : Prop :=
  ∀ s : State, s.sess = .transferring → 259 ≤ s.rxq.length →
    (∀ i ∈ [0, 1, 2], s.rxq[i]? = some s.cfg.wire.ack) →
      ∃ t, exec .readPage s = .next t ∧ t.tx = s.tx ++ readPageBytes s.cfg.wire s.addr ∧
        t.rxq = s.rxq.drop 259 ∧ (t.rxbuf.drop 1).take 256 = (s.rxq.drop 3).take 256 ∧ t.rxLen = 257 ∧
        t.step = some .readLength ∧ t.sess = .transferring ∧ t.failReason = s.failReason ∧
        t.ctl = s.ctl ∧ t.env = s.env ∧ t.abort = s.abort ∧ stepFrame s t

/-- The frame of `openSession`, `writePage` and `readPage` (R178, R216, R226): however they end, short of a
reset, no other register changes, and `RXBUF` keeps what no response reaches. -/
def Obligations.SessionAndPageOperationsKeepAllOtherState : Prop :=
  ∀ s t : State, noReset s → s.rxbuf.length = 257 →
    (exec .openSession s = .next t →
      t.addr = s.addr ∧ t.pbuf = s.pbuf ∧ t.chunkLen = s.chunkLen ∧ t.pageIdx = s.pageIdx ∧
        t.wAtt = s.wAtt ∧ t.wOk = s.wOk ∧ t.vAtt = s.vAtt ∧ t.vOk = s.vOk ∧ t.resOk = s.resOk ∧
        t.busy = s.busy ∧ t.cfg = s.cfg ∧ t.unitOut = s.unitOut ∧ t.own = true ∧ t.modeLine = true ∧
        t.rstLine = true ∧ t.pass = .setup ∧ (s.busy = true → t.src = s.src) ∧
        (s.contractViol = true → t.contractViol = true) ∧ ∀ i, 15 ≤ i → t.rxbuf[i]? = s.rxbuf[i]?) ∧
    (exec .writePage s = .next t → stepFrame s t ∧ ∀ i, 1 ≤ i → t.rxbuf[i]? = s.rxbuf[i]?) ∧
    (exec .readPage s = .next t → stepFrame s t)

/-- The frame of the passes and of the whole operation (R240, R247, R249, R258): a write pass touches no
verify counter, a verify pass no write counter and neither `PBUF` nor `CHUNKLEN`; an operation never
changes the image's bytes, the parameters or the model's own result field. -/
def Obligations.PassesAndOperationsKeepAllOtherState : Prop :=
  ∀ s t : State, noReset s →
    (exec .writeImage s = .next t →
      passFrame s t ∧ t.pass = .write ∧ t.vAtt = s.vAtt ∧ t.vOk = s.vOk ∧
        (s.rxbuf.length = 257 → ∀ i, 1 ≤ i → t.rxbuf[i]? = s.rxbuf[i]?)) ∧
    (exec .verifyImage s = .next t →
      passFrame s t ∧ t.pass = .verify ∧ t.pbuf = s.pbuf ∧ t.chunkLen = s.chunkLen ∧ t.wAtt = s.wAtt ∧
        t.wOk = s.wOk) ∧
    (exec .flashAndVerify s = .next t → s.busy = false →
      t.src.bytes = s.src.bytes ∧ t.cfg = s.cfg ∧ t.unitOut = s.unitOut ∧
        (s.contractViol = true → t.contractViol = true))

/-- `writeImage` with an acknowledgment in the queue for every step (R240 to R244, R63): it sends every page
of the image, zero-padded, at its address, in order, and nothing else, and counts each once. -/
def Obligations.WriteImageSendsEveryPage : Prop :=
  ∀ s : State, s.sess = .ready ∨ s.sess = .transferring → s.failReason = .none → s.abort = false →
    s.src.bytes.length < 2 ^ 32 → s.wAtt = 0 → s.wOk = 0 →
    (∀ b ∈ s.rxq, b = s.cfg.wire.ack) → 3 * pageCount s.src.bytes ≤ s.rxq.length →
      ∃ t, exec .writeImage s = .next t ∧ t.failReason = .none ∧ t.sess = .transferring ∧ t.pass = .write ∧
        t.tx = s.tx ++ writePassBytes s.cfg.wire s.cfg.base s.src.bytes ∧
        t.rxq = s.rxq.drop (3 * pageCount s.src.bytes) ∧
        t.wAtt = BitVec.ofNat 32 (pageCount s.src.bytes) ∧ t.wOk = BitVec.ofNat 32 (pageCount s.src.bytes) ∧
        t.pageIdx = BitVec.ofNat 32 (pageCount s.src.bytes) ∧
        t.addr = pageAddress s.cfg.base (pageCount s.src.bytes) ∧
        t.src = ⟨s.src.bytes, s.src.bytes.length⟩ ∧ t.vAtt = s.vAtt ∧ t.vOk = s.vOk

/-- `verifyImage` with, for every page, three acknowledgments and 256 bytes in the queue (R247 to R251): it
reads every page at the address it was written at and presents exactly the bytes received, with index and
address, in order; `PBUF` is not touched. -/
def Obligations.VerifyImagePresentsEveryPage : Prop :=
  ∀ (s : State) (pages : List (List Byte)) (later : List Byte),
    s.sess = .ready ∨ s.sess = .transferring → s.failReason = .none → s.abort = false →
    s.cfg.verifyEn = true → s.src.bytes.length < 2 ^ 32 → s.vAtt = 0 → s.vOk = 0 →
    pages.length = pageCount s.src.bytes → (∀ d ∈ pages, d.length = 256) →
    s.rxq = pages.flatMap (fun d => [s.cfg.wire.ack, s.cfg.wire.ack, s.cfg.wire.ack] ++ d) ++ later →
      ∃ t, exec .verifyImage s = .next t ∧ t.failReason = .none ∧ t.sess = .transferring ∧
        t.pass = .verify ∧ t.tx = s.tx ++ readPassBytes s.cfg.wire s.cfg.base s.src.bytes ∧ t.rxq = later ∧
        pageOuts t.trace = pageOuts s.trace ++ pages.mapIdx (fun p d =>
          (BitVec.ofNat 32 p, s.cfg.base + BitVec.ofNat 32 (256 * p), d)) ∧
        t.vAtt = BitVec.ofNat 32 (pageCount s.src.bytes) ∧ t.vOk = BitVec.ofNat 32 (pageCount s.src.bytes) ∧
        t.src = ⟨s.src.bytes, s.src.bytes.length⟩ ∧ t.pbuf = s.pbuf ∧ t.chunkLen = s.chunkLen ∧
        t.wAtt = s.wAtt ∧ t.wOk = s.wOk

/-- `flashAndVerify` with an acknowledgment in the queue for every step (R258, R260): success, with the
counts of the image's pages and the bytes of the whole operation, in order. -/
def Obligations.FlashAndVerifySucceeds : Prop :=
  ∀ s : State, atRest s → s.abort = false → s.src.bytes.length < 2 ^ 32 →
    (∀ b ∈ s.rxq, b = s.cfg.wire.ack) →
    30 + 3 * pageCount s.src.bytes + (if s.cfg.verifyEn then 259 * pageCount s.src.bytes else 0)
      ≤ s.rxq.length →
      ∃ t, exec .flashAndVerify s = .next t ∧ atRest t ∧ t.resOk = true ∧ t.failReason = .none ∧
        t.wAtt = BitVec.ofNat 32 (pageCount s.src.bytes) ∧ t.wOk = BitVec.ofNat 32 (pageCount s.src.bytes) ∧
        t.vAtt = (if s.cfg.verifyEn then BitVec.ofNat 32 (pageCount s.src.bytes) else 0) ∧
        t.vOk = (if s.cfg.verifyEn then BitVec.ofNat 32 (pageCount s.src.bytes) else 0) ∧
        t.tx = s.tx ++ openBytes s.cfg.wire ++ writePassBytes s.cfg.wire s.cfg.base s.src.bytes ++
          (if s.cfg.verifyEn then readPassBytes s.cfg.wire s.cfg.base s.src.bytes else [])

/-- However an operation goes, short of a reset, it ends closed (R182, R188, R258, R260, R291): idle, lines
released at their resting levels, `RES_OK` exactly if no failure is recorded, and the five close events
and `Done` with the result registers are its last events. -/
def Obligations.EveryOperationEndsClosed : Prop :=
  ∀ s t : State, atRest s → noReset s → exec .flashAndVerify s = .next t →
    atRest t ∧ t.rstLine = true ∧ t.modeLine = false ∧ t.pass = .none ∧ t.step = none ∧
      (t.resOk = true ↔ t.failReason = .none) ∧
      ∃ before, t.trace = before ++ [.gpio .rst false, .gpio .mode false, .gpio .rst false, .delay .settle,
        .gpio .rst true, .done (result t)]

/-- An operation always ends (R262): from rest, whatever TARGET, TIMER and HOST do within the host contract,
`flashAndVerify` answers a next state. That a wait ends when no move of another agent is left is the model's
inference from R151 and R262 (log 5, DEDUCED). -/
def Obligations.EveryOperationEnds : Prop :=
  ∀ s : State, atRest s → contractKept s → ∃ t, exec .flashAndVerify s = .next t

/-- The totals of a successful operation, however its responses came (R261): bytes sent, bytes consumed from
`RXQ`, exchanges, the line events, the source events of each pass, and the page counters. -/
def Obligations.SuccessfulOperationTotals : Prop :=
  ∀ s t : State, atRest s → s.src.bytes.length < 2 ^ 32 → exec .flashAndVerify s = .next t →
    t.resOk = true →
      t.tx.length = s.tx.length + 16 + 265 * pageCount s.src.bytes +
          (if s.cfg.verifyEn then 9 * pageCount s.src.bytes else 0) ∧
        consumedBytes t.trace = consumedBytes s.trace + 30 + 3 * pageCount s.src.bytes +
          (if s.cfg.verifyEn then 259 * pageCount s.src.bytes else 0) ∧
        exchangeCount t.trace = exchangeCount s.trace + 8 + 3 * pageCount s.src.bytes +
          (if s.cfg.verifyEn then 3 * pageCount s.src.bytes else 0) ∧
        lineEvents t.trace = lineEvents s.trace ++
          [.gpio .mode true, .gpio .rst false, .delay .settle, .gpio .rst true] ++
          [.gpio .rst false, .gpio .mode false, .gpio .rst false, .delay .settle, .gpio .rst true] ∧
        sourceEvents t.trace = sourceEvents s.trace ++ passReads s.src.bytes ++
          (if s.cfg.verifyEn then passReads s.src.bytes else []) ∧
        t.wAtt = BitVec.ofNat 32 (pageCount s.src.bytes) ∧ t.wOk = BitVec.ofNat 32 (pageCount s.src.bytes) ∧
        t.vAtt = (if s.cfg.verifyEn then BitVec.ofNat 32 (pageCount s.src.bytes) else 0) ∧
        t.vOk = (if s.cfg.verifyEn then BitVec.ofNat 32 (pageCount s.src.bytes) else 0)

/-- A second request while an operation runs is ignored (R34, R288): `CONTRACT_VIOL` is set and nothing else
changes, as an instruction and as a raise of `START` by HOST. -/
def Obligations.SecondStartIsIgnored : Prop :=
  ∀ (s : State), s.busy = true →
    exec .flashAndVerify s = .next { s with contractViol := true } ∧
      ∀ later, s.env = .start true :: later → s.start = false →
        step s = .next { s with start := true, contractViol := true, env := later }

/-! ### The hardwired sequence -/

/-- The sequencer does what `flashAndVerify` says (R25, R104, R258): at rest the raise of `START` is accepted,
and the engine's turns from there, one after another, come to exactly the outcome of `flashAndVerify`,
whatever the other agents do while it waits. That the acceptance falls in the step of the raise is the
model's choice (log 8). -/
def Obligations.SequencerRunsFlashAndVerify : Prop :=
  ∀ (s : State) (later : List EnvMove), atRest s → s.start = false → s.env = .start true :: later →
    ∃ t k, step s = .next t ∧
      engineRun k t = exec .flashAndVerify { s with start := true, env := later }

/-- The abort check (R256, R286): sampled high before a page that exists, nothing of the page is sent or
counted, the record says `Aborted`, the pass, no step and the page, and the close sequence is next. -/
def Obligations.AbortStopsBeforeThePage : Prop :=
  ∀ (s : State) (verify : Bool), otherTurn s = none → s.ctl = .startPage verify →
    s.sess = .transferring → s.pass = loopPass verify → s.failReason = .none → s.abort = true →
    s.src.pos < s.src.bytes.length →
      ∃ t, step s = .next t ∧ t.failReason = .aborted ∧ t.failPass = loopPass verify ∧ t.failStep = none ∧
        t.failPage = s.pageIdx ∧ t.tx = s.tx ∧ t.wAtt = s.wAtt ∧ t.vAtt = s.vAtt ∧ t.pbuf = s.pbuf ∧
        t.sess = .transferring ∧ t.ctl = .closing 0

/-- `ABORT` is sampled at the start of a page only (R256, R289): at every other point, the end of the image
included, two states that differ in `ABORT` alone have steps that differ in `ABORT` alone. -/
def Obligations.AbortIsSeenAtPageStartsOnly : Prop :=
  ∀ (s : State) (level : Bool), (∀ verify, s.ctl = .startPage verify → nextChunk s.src = []) →
    mapNext (fun t => { t with abort := false }) (step { s with abort := level }) =
      mapNext (fun t => { t with abort := false }) (step s)

/-- A command frame is sent only by the step that is due, in the session state it may be issued in, and is
that step's frame; nothing else a step does sends a byte (R188, R230, R231). -/
def Obligations.OnlyDueStepsSendAndOnlyTheirFrame : Prop :=
  ∀ s t : State, step s = .next t →
    t.tx = s.tx ∨
      ∃ st frame, otherTurn s = none ∧ dueStep (engineTurn s) = some st ∧ s.sess = stepSession st ∧
        encode s.cfg.wire (issue st (engineTurn s)) = some frame ∧ t.tx = s.tx ++ frame

/-- `TX` and the trace only grow, the parameters never change, and the engine writes neither `START` nor
`ABORT`: each changes by a move of HOST only, a reset included (R41, R12, R329, R36). -/
def Obligations.HistoryGrowsParametersAndInputsStay : Prop :=
  ∀ s t : State, step s = .next t →
    s.tx <+: t.tx ∧ s.trace <+: t.trace ∧ t.cfg = s.cfg ∧
      ((∀ level, EnvMove.start level ∉ s.env) → t.start = s.start) ∧
      ((∀ level, EnvMove.abort level ∉ s.env) → t.abort = s.abort)

/-- `CONTRACT_VIOL` is sticky: nothing but a reset clears it (R34). -/
def Obligations.ContractViolIsSticky : Prop :=
  ∀ s t : State, step s = .next t → noReset s → s.contractViol = true → t.contractViol = true

/-- The first failure of an operation stays on record until the next accepted `START` or a reset (R31, R284,
R33, R260): every step keeps it that is neither, at rest too; and at rest such a step keeps all result
registers. The acceptance is the step that raises `START` at rest (log 8). -/
def Obligations.FirstFailureStaysOnRecord : Prop :=
  ∀ s t : State, step s = .next t → noReset s →
    ¬(s.ctl = .rest ∧ s.busy = false ∧ s.start = false ∧ ∃ later, s.env = .start true :: later) →
      (s.failReason ≠ .none →
        t.failReason = s.failReason ∧ t.failPass = s.failPass ∧ t.failStep = s.failStep ∧
          t.failPage = s.failPage) ∧
      (s.ctl = .rest → result t = result s)

/-- A reset in mid-operation (R321, R50): the lines go to their reset levels with no line event, no close
sequence runs, `RXQ`, `TX` and the image stay, and the engine is idle. -/
def Obligations.ResetRunsNoCloseSequence : Prop :=
  ∀ (s : State) (later : List EnvMove), s.env = .reset :: later →
    ∃ t, step s = .next t ∧ atRest t ∧ t.rstLine = true ∧ t.modeLine = false ∧ t.resOk = false ∧
      t.failReason = .none ∧ t.contractViol = false ∧ t.trace = s.trace ∧ t.tx = s.tx ∧ t.rxq = s.rxq ∧
      t.src = s.src

/-- The ten registers of the host (R37): each field of a packed register at its bits, the bits above read 0;
and the codes those fields hold, in the order of R26, R27, R28 and R31. -/
def Obligations.HostRegistersArePacked : Prop :=
  ∀ s : State,
    (∃ w, hostRead s 0 = some w ∧ w.getLsbD 0 = s.busy ∧ w.getLsbD 1 = s.resOk ∧
      w.getLsbD 2 = s.contractViol ∧ w.getLsbD 3 = s.own ∧ w.getLsbD 4 = s.rstLine ∧
      w.getLsbD 5 = s.modeLine ∧ w >>> 6 = 0) ∧
    (∃ w, hostRead s 1 = some w ∧ w &&& 7 = s.sess.code ∧ (w >>> 3) &&& 3 = s.pass.code ∧
      (w >>> 5) &&& 15 = stepCode s.step ∧ w >>> 9 = 0) ∧
    (∃ w, hostRead s 3 = some w ∧ w &&& 7 = s.failReason.code ∧ (w >>> 3) &&& 3 = s.failPass.code ∧
      (w >>> 5) &&& 15 = stepCode s.failStep ∧ w >>> 9 = 0) ∧
    hostRead s 2 = some s.pageIdx ∧ hostRead s 4 = some s.failPage ∧ hostRead s 5 = some s.wAtt ∧
    hostRead s 6 = some s.wOk ∧ hostRead s 7 = some s.vAtt ∧ hostRead s 8 = some s.vOk ∧
    hostRead s 9 = some (val32 s.addr) ∧ (∀ n, 10 ≤ n → hostRead s n = none) ∧
    [Sess.idle, .modeAsserted, .synced, .ready, .erasing, .transferring, .closing, .faulted].map Sess.code =
      [0, 1, 2, 3, 4, 5, 6, 7] ∧
    [Pass.none, .setup, .write, .verify].map Pass.code = [0, 1, 2, 3] ∧
    ([StepId.sync, .get, .getVersion, .getId, .eraseCmd, .eraseParam, .extEraseCmd, .extEraseParam, .writeSetup,
      .writeAddress, .writePayload, .readSetup, .readAddress, .readLength].map fun st => stepCode (some st)) =
      [0, 1, 2, 3, 4, 5, 6, 7, 8, 9, 10, 11, 12, 13] ∧
    stepCode none = 15 ∧
    [FailReason.none, .timeout, .protocolNack, .invalidPayloadSize, .sessionContractViolation, .aborted].map
      FailReason.code = [0, 1, 2, 3, 4, 5]

/-! ### Invariants -/

/-- Every step keeps the register arrays at their sizes and the source inside its image (R21 to R23, R42). -/
def Obligations.StepsKeepTheShape : Prop :=
  ∀ s t : State, Shape s → step s = .next t → Shape t

/-- Every step keeps the sequence invariant (R187, R188): the position of the hardwired sequence agrees with
session, pass, ownership, line levels and failure record. -/
def Obligations.StepsKeepTheSequence : Prop :=
  ∀ s t : State, SequenceInv s → step s = .next t → SequenceInv t

/-- Every step keeps the page invariant (R32, R63, R242 to R250): the engine is always at the address,
source position, counts and, in the write pass, page bytes that belong to page `PAGEIDX`. -/
def Obligations.StepsKeepThePage : Prop :=
  ∀ s t : State, Shape s → SequenceInv s → PageInv s → step s = .next t → PageInv t

/-- Reset satisfies the three invariants; the sizes and ranges of `ADDR`, `PBUF`, `RXBUF` and `SRC` at reset
are the model's choice (log 6, log 7). -/
def Obligations.ResetMeetsTheInvariants : Prop :=
  Shape State.reset ∧ SequenceInv State.reset ∧ PageInv State.reset

/-- In sequence the engine never stops (R184, R187, R262): as long as the other agents keep the contract as
while a session is open, which shuts out `attach`, `takeLink` and `driveLines` at rest too, every step
answers a next state. That a wait ends when no move of another agent is left is the model's inference from
R151 and R262 (log 5, DEDUCED). -/
def Obligations.StepsNeverStop : Prop :=
  ∀ s : State, SequenceInv s → contractKept s → ∃ t, step s = .next t
end

