-- ==== Sys2Proof/Laws/State.lean ====
section
/-! SUPPORT. For every operation that updates the state, one lemma per field (10_state.md), and what the
failure record holds after a failure (R31, R284). -/

namespace Sys2Proof.Machine

/-! ### `emit` -/

@[simp] theorem emit_addr (e : Event) (s : State) : (emit e s).addr = s.addr := rfl
@[simp] theorem emit_pbuf (e : Event) (s : State) : (emit e s).pbuf = s.pbuf := rfl
@[simp] theorem emit_chunkLen (e : Event) (s : State) : (emit e s).chunkLen = s.chunkLen := rfl
@[simp] theorem emit_rxbuf (e : Event) (s : State) : (emit e s).rxbuf = s.rxbuf := rfl
@[simp] theorem emit_rxLen (e : Event) (s : State) : (emit e s).rxLen = s.rxLen := rfl
@[simp] theorem emit_sess (e : Event) (s : State) : (emit e s).sess = s.sess := rfl
@[simp] theorem emit_pass (e : Event) (s : State) : (emit e s).pass = s.pass := rfl
@[simp] theorem emit_step (e : Event) (s : State) : (emit e s).step = s.step := rfl
@[simp] theorem emit_pageIdx (e : Event) (s : State) : (emit e s).pageIdx = s.pageIdx := rfl
@[simp] theorem emit_failReason (e : Event) (s : State) : (emit e s).failReason = s.failReason := rfl
@[simp] theorem emit_failPass (e : Event) (s : State) : (emit e s).failPass = s.failPass := rfl
@[simp] theorem emit_failStep (e : Event) (s : State) : (emit e s).failStep = s.failStep := rfl
@[simp] theorem emit_failPage (e : Event) (s : State) : (emit e s).failPage = s.failPage := rfl
@[simp] theorem emit_wAtt (e : Event) (s : State) : (emit e s).wAtt = s.wAtt := rfl
@[simp] theorem emit_wOk (e : Event) (s : State) : (emit e s).wOk = s.wOk := rfl
@[simp] theorem emit_vAtt (e : Event) (s : State) : (emit e s).vAtt = s.vAtt := rfl
@[simp] theorem emit_vOk (e : Event) (s : State) : (emit e s).vOk = s.vOk := rfl
@[simp] theorem emit_resOk (e : Event) (s : State) : (emit e s).resOk = s.resOk := rfl
@[simp] theorem emit_busy (e : Event) (s : State) : (emit e s).busy = s.busy := rfl
@[simp] theorem emit_contractViol (e : Event) (s : State) : (emit e s).contractViol = s.contractViol := rfl
@[simp] theorem emit_own (e : Event) (s : State) : (emit e s).own = s.own := rfl
@[simp] theorem emit_rstLine (e : Event) (s : State) : (emit e s).rstLine = s.rstLine := rfl
@[simp] theorem emit_modeLine (e : Event) (s : State) : (emit e s).modeLine = s.modeLine := rfl
@[simp] theorem emit_start (e : Event) (s : State) : (emit e s).start = s.start := rfl
@[simp] theorem emit_abort (e : Event) (s : State) : (emit e s).abort = s.abort := rfl
@[simp] theorem emit_rxq (e : Event) (s : State) : (emit e s).rxq = s.rxq := rfl
@[simp] theorem emit_tx (e : Event) (s : State) : (emit e s).tx = s.tx := rfl
@[simp] theorem emit_src (e : Event) (s : State) : (emit e s).src = s.src := rfl
@[simp] theorem emit_trace (e : Event) (s : State) : (emit e s).trace = s.trace ++ [e] := rfl
@[simp] theorem emit_cfg (e : Event) (s : State) : (emit e s).cfg = s.cfg := rfl
@[simp] theorem emit_ctl (e : Event) (s : State) : (emit e s).ctl = s.ctl := rfl
@[simp] theorem emit_env (e : Event) (s : State) : (emit e s).env = s.env := rfl
@[simp] theorem emit_unitOut (e : Event) (s : State) : (emit e s).unitOut = s.unitOut := rfl

/-! ### `send` -/

@[simp] theorem send_addr (bytes : List Byte) (s : State) : (send bytes s).addr = s.addr := rfl
@[simp] theorem send_pbuf (bytes : List Byte) (s : State) : (send bytes s).pbuf = s.pbuf := rfl
@[simp] theorem send_chunkLen (bytes : List Byte) (s : State) : (send bytes s).chunkLen = s.chunkLen := rfl
@[simp] theorem send_rxbuf (bytes : List Byte) (s : State) : (send bytes s).rxbuf = s.rxbuf := rfl
@[simp] theorem send_rxLen (bytes : List Byte) (s : State) : (send bytes s).rxLen = s.rxLen := rfl
@[simp] theorem send_sess (bytes : List Byte) (s : State) : (send bytes s).sess = s.sess := rfl
@[simp] theorem send_pass (bytes : List Byte) (s : State) : (send bytes s).pass = s.pass := rfl
@[simp] theorem send_step (bytes : List Byte) (s : State) : (send bytes s).step = s.step := rfl
@[simp] theorem send_pageIdx (bytes : List Byte) (s : State) : (send bytes s).pageIdx = s.pageIdx := rfl
@[simp] theorem send_failReason (bytes : List Byte) (s : State) : (send bytes s).failReason = s.failReason := rfl
@[simp] theorem send_failPass (bytes : List Byte) (s : State) : (send bytes s).failPass = s.failPass := rfl
@[simp] theorem send_failStep (bytes : List Byte) (s : State) : (send bytes s).failStep = s.failStep := rfl
@[simp] theorem send_failPage (bytes : List Byte) (s : State) : (send bytes s).failPage = s.failPage := rfl
@[simp] theorem send_wAtt (bytes : List Byte) (s : State) : (send bytes s).wAtt = s.wAtt := rfl
@[simp] theorem send_wOk (bytes : List Byte) (s : State) : (send bytes s).wOk = s.wOk := rfl
@[simp] theorem send_vAtt (bytes : List Byte) (s : State) : (send bytes s).vAtt = s.vAtt := rfl
@[simp] theorem send_vOk (bytes : List Byte) (s : State) : (send bytes s).vOk = s.vOk := rfl
@[simp] theorem send_resOk (bytes : List Byte) (s : State) : (send bytes s).resOk = s.resOk := rfl
@[simp] theorem send_busy (bytes : List Byte) (s : State) : (send bytes s).busy = s.busy := rfl
@[simp] theorem send_contractViol (bytes : List Byte) (s : State) : (send bytes s).contractViol = s.contractViol := rfl
@[simp] theorem send_own (bytes : List Byte) (s : State) : (send bytes s).own = s.own := rfl
@[simp] theorem send_rstLine (bytes : List Byte) (s : State) : (send bytes s).rstLine = s.rstLine := rfl
@[simp] theorem send_modeLine (bytes : List Byte) (s : State) : (send bytes s).modeLine = s.modeLine := rfl
@[simp] theorem send_start (bytes : List Byte) (s : State) : (send bytes s).start = s.start := rfl
@[simp] theorem send_abort (bytes : List Byte) (s : State) : (send bytes s).abort = s.abort := rfl
@[simp] theorem send_rxq (bytes : List Byte) (s : State) : (send bytes s).rxq = s.rxq := rfl
@[simp] theorem send_tx (bytes : List Byte) (s : State) : (send bytes s).tx = s.tx ++ bytes := rfl
@[simp] theorem send_src (bytes : List Byte) (s : State) : (send bytes s).src = s.src := rfl
@[simp] theorem send_trace (bytes : List Byte) (s : State) : (send bytes s).trace = s.trace ++ [.tx bytes] := rfl
@[simp] theorem send_cfg (bytes : List Byte) (s : State) : (send bytes s).cfg = s.cfg := rfl
@[simp] theorem send_ctl (bytes : List Byte) (s : State) : (send bytes s).ctl = s.ctl := rfl
@[simp] theorem send_env (bytes : List Byte) (s : State) : (send bytes s).env = s.env := rfl
@[simp] theorem send_unitOut (bytes : List Byte) (s : State) : (send bytes s).unitOut = s.unitOut := rfl

/-! ### `engineReset` -/

@[simp] theorem engineReset_addr (s : State) : (engineReset s).addr = State.reset.addr := rfl
@[simp] theorem engineReset_pbuf (s : State) : (engineReset s).pbuf = State.reset.pbuf := rfl
@[simp] theorem engineReset_chunkLen (s : State) : (engineReset s).chunkLen = State.reset.chunkLen := rfl
@[simp] theorem engineReset_rxbuf (s : State) : (engineReset s).rxbuf = State.reset.rxbuf := rfl
@[simp] theorem engineReset_rxLen (s : State) : (engineReset s).rxLen = State.reset.rxLen := rfl
@[simp] theorem engineReset_sess (s : State) : (engineReset s).sess = State.reset.sess := rfl
@[simp] theorem engineReset_pass (s : State) : (engineReset s).pass = State.reset.pass := rfl
@[simp] theorem engineReset_step (s : State) : (engineReset s).step = State.reset.step := rfl
@[simp] theorem engineReset_pageIdx (s : State) : (engineReset s).pageIdx = State.reset.pageIdx := rfl
@[simp] theorem engineReset_failReason (s : State) : (engineReset s).failReason = State.reset.failReason := rfl
@[simp] theorem engineReset_failPass (s : State) : (engineReset s).failPass = State.reset.failPass := rfl
@[simp] theorem engineReset_failStep (s : State) : (engineReset s).failStep = State.reset.failStep := rfl
@[simp] theorem engineReset_failPage (s : State) : (engineReset s).failPage = State.reset.failPage := rfl
@[simp] theorem engineReset_wAtt (s : State) : (engineReset s).wAtt = State.reset.wAtt := rfl
@[simp] theorem engineReset_wOk (s : State) : (engineReset s).wOk = State.reset.wOk := rfl
@[simp] theorem engineReset_vAtt (s : State) : (engineReset s).vAtt = State.reset.vAtt := rfl
@[simp] theorem engineReset_vOk (s : State) : (engineReset s).vOk = State.reset.vOk := rfl
@[simp] theorem engineReset_resOk (s : State) : (engineReset s).resOk = State.reset.resOk := rfl
@[simp] theorem engineReset_busy (s : State) : (engineReset s).busy = State.reset.busy := rfl
@[simp] theorem engineReset_contractViol (s : State) : (engineReset s).contractViol = State.reset.contractViol := rfl
@[simp] theorem engineReset_own (s : State) : (engineReset s).own = State.reset.own := rfl
@[simp] theorem engineReset_rstLine (s : State) : (engineReset s).rstLine = State.reset.rstLine := rfl
@[simp] theorem engineReset_modeLine (s : State) : (engineReset s).modeLine = State.reset.modeLine := rfl
@[simp] theorem engineReset_start (s : State) : (engineReset s).start = s.start := rfl
@[simp] theorem engineReset_abort (s : State) : (engineReset s).abort = s.abort := rfl
@[simp] theorem engineReset_rxq (s : State) : (engineReset s).rxq = s.rxq := rfl
@[simp] theorem engineReset_tx (s : State) : (engineReset s).tx = s.tx := rfl
@[simp] theorem engineReset_src (s : State) : (engineReset s).src = s.src := rfl
@[simp] theorem engineReset_trace (s : State) : (engineReset s).trace = s.trace := rfl
@[simp] theorem engineReset_cfg (s : State) : (engineReset s).cfg = s.cfg := rfl
@[simp] theorem engineReset_ctl (s : State) : (engineReset s).ctl = State.reset.ctl := rfl
@[simp] theorem engineReset_env (s : State) : (engineReset s).env = s.env := rfl
@[simp] theorem engineReset_unitOut (s : State) : (engineReset s).unitOut = State.reset.unitOut := rfl

/-! ### `srcRewind` -/

@[simp] theorem srcRewind_addr (s : State) : (srcRewind s).addr = s.addr := rfl
@[simp] theorem srcRewind_pbuf (s : State) : (srcRewind s).pbuf = s.pbuf := rfl
@[simp] theorem srcRewind_chunkLen (s : State) : (srcRewind s).chunkLen = s.chunkLen := rfl
@[simp] theorem srcRewind_rxbuf (s : State) : (srcRewind s).rxbuf = s.rxbuf := rfl
@[simp] theorem srcRewind_rxLen (s : State) : (srcRewind s).rxLen = s.rxLen := rfl
@[simp] theorem srcRewind_sess (s : State) : (srcRewind s).sess = s.sess := rfl
@[simp] theorem srcRewind_pass (s : State) : (srcRewind s).pass = s.pass := rfl
@[simp] theorem srcRewind_step (s : State) : (srcRewind s).step = s.step := rfl
@[simp] theorem srcRewind_pageIdx (s : State) : (srcRewind s).pageIdx = s.pageIdx := rfl
@[simp] theorem srcRewind_failReason (s : State) : (srcRewind s).failReason = s.failReason := rfl
@[simp] theorem srcRewind_failPass (s : State) : (srcRewind s).failPass = s.failPass := rfl
@[simp] theorem srcRewind_failStep (s : State) : (srcRewind s).failStep = s.failStep := rfl
@[simp] theorem srcRewind_failPage (s : State) : (srcRewind s).failPage = s.failPage := rfl
@[simp] theorem srcRewind_wAtt (s : State) : (srcRewind s).wAtt = s.wAtt := rfl
@[simp] theorem srcRewind_wOk (s : State) : (srcRewind s).wOk = s.wOk := rfl
@[simp] theorem srcRewind_vAtt (s : State) : (srcRewind s).vAtt = s.vAtt := rfl
@[simp] theorem srcRewind_vOk (s : State) : (srcRewind s).vOk = s.vOk := rfl
@[simp] theorem srcRewind_resOk (s : State) : (srcRewind s).resOk = s.resOk := rfl
@[simp] theorem srcRewind_busy (s : State) : (srcRewind s).busy = s.busy := rfl
@[simp] theorem srcRewind_contractViol (s : State) : (srcRewind s).contractViol = s.contractViol := rfl
@[simp] theorem srcRewind_own (s : State) : (srcRewind s).own = s.own := rfl
@[simp] theorem srcRewind_rstLine (s : State) : (srcRewind s).rstLine = s.rstLine := rfl
@[simp] theorem srcRewind_modeLine (s : State) : (srcRewind s).modeLine = s.modeLine := rfl
@[simp] theorem srcRewind_start (s : State) : (srcRewind s).start = s.start := rfl
@[simp] theorem srcRewind_abort (s : State) : (srcRewind s).abort = s.abort := rfl
@[simp] theorem srcRewind_rxq (s : State) : (srcRewind s).rxq = s.rxq := rfl
@[simp] theorem srcRewind_tx (s : State) : (srcRewind s).tx = s.tx := rfl
@[simp] theorem srcRewind_src (s : State) : (srcRewind s).src = ⟨s.src.bytes, 0⟩ := rfl
@[simp] theorem srcRewind_trace (s : State) : (srcRewind s).trace = s.trace ++ [.srcRewind] := rfl
@[simp] theorem srcRewind_cfg (s : State) : (srcRewind s).cfg = s.cfg := rfl
@[simp] theorem srcRewind_ctl (s : State) : (srcRewind s).ctl = s.ctl := rfl
@[simp] theorem srcRewind_env (s : State) : (srcRewind s).env = s.env := rfl
@[simp] theorem srcRewind_unitOut (s : State) : (srcRewind s).unitOut = s.unitOut := rfl

/-! ### `srcRead` -/

@[simp] theorem srcRead_addr (s : State) : (srcRead s).addr = s.addr := rfl
@[simp] theorem srcRead_pbuf (s : State) : (srcRead s).pbuf = s.pbuf := rfl
@[simp] theorem srcRead_chunkLen (s : State) : (srcRead s).chunkLen = s.chunkLen := rfl
@[simp] theorem srcRead_rxbuf (s : State) : (srcRead s).rxbuf = s.rxbuf := rfl
@[simp] theorem srcRead_rxLen (s : State) : (srcRead s).rxLen = s.rxLen := rfl
@[simp] theorem srcRead_sess (s : State) : (srcRead s).sess = s.sess := rfl
@[simp] theorem srcRead_pass (s : State) : (srcRead s).pass = s.pass := rfl
@[simp] theorem srcRead_step (s : State) : (srcRead s).step = s.step := rfl
@[simp] theorem srcRead_pageIdx (s : State) : (srcRead s).pageIdx = s.pageIdx := rfl
@[simp] theorem srcRead_failReason (s : State) : (srcRead s).failReason = s.failReason := rfl
@[simp] theorem srcRead_failPass (s : State) : (srcRead s).failPass = s.failPass := rfl
@[simp] theorem srcRead_failStep (s : State) : (srcRead s).failStep = s.failStep := rfl
@[simp] theorem srcRead_failPage (s : State) : (srcRead s).failPage = s.failPage := rfl
@[simp] theorem srcRead_wAtt (s : State) : (srcRead s).wAtt = s.wAtt := rfl
@[simp] theorem srcRead_wOk (s : State) : (srcRead s).wOk = s.wOk := rfl
@[simp] theorem srcRead_vAtt (s : State) : (srcRead s).vAtt = s.vAtt := rfl
@[simp] theorem srcRead_vOk (s : State) : (srcRead s).vOk = s.vOk := rfl
@[simp] theorem srcRead_resOk (s : State) : (srcRead s).resOk = s.resOk := rfl
@[simp] theorem srcRead_busy (s : State) : (srcRead s).busy = s.busy := rfl
@[simp] theorem srcRead_contractViol (s : State) : (srcRead s).contractViol = s.contractViol := rfl
@[simp] theorem srcRead_own (s : State) : (srcRead s).own = s.own := rfl
@[simp] theorem srcRead_rstLine (s : State) : (srcRead s).rstLine = s.rstLine := rfl
@[simp] theorem srcRead_modeLine (s : State) : (srcRead s).modeLine = s.modeLine := rfl
@[simp] theorem srcRead_start (s : State) : (srcRead s).start = s.start := rfl
@[simp] theorem srcRead_abort (s : State) : (srcRead s).abort = s.abort := rfl
@[simp] theorem srcRead_rxq (s : State) : (srcRead s).rxq = s.rxq := rfl
@[simp] theorem srcRead_tx (s : State) : (srcRead s).tx = s.tx := rfl
@[simp] theorem srcRead_src (s : State) : (srcRead s).src = ⟨s.src.bytes, s.src.pos + (nextChunk s.src).length⟩ := rfl
@[simp] theorem srcRead_trace (s : State) : (srcRead s).trace = s.trace ++ [.srcRead (nextChunk s.src)] := rfl
@[simp] theorem srcRead_cfg (s : State) : (srcRead s).cfg = s.cfg := rfl
@[simp] theorem srcRead_ctl (s : State) : (srcRead s).ctl = s.ctl := rfl
@[simp] theorem srcRead_env (s : State) : (srcRead s).env = s.env := rfl
@[simp] theorem srcRead_unitOut (s : State) : (srcRead s).unitOut = s.unitOut := rfl

/-! ### `accept` -/

@[simp] theorem accept_addr (s : State) : (accept s).addr = s.addr := rfl
@[simp] theorem accept_pbuf (s : State) : (accept s).pbuf = s.pbuf := rfl
@[simp] theorem accept_chunkLen (s : State) : (accept s).chunkLen = s.chunkLen := rfl
@[simp] theorem accept_rxbuf (s : State) : (accept s).rxbuf = s.rxbuf := rfl
@[simp] theorem accept_rxLen (s : State) : (accept s).rxLen = s.rxLen := rfl
@[simp] theorem accept_sess (s : State) : (accept s).sess = s.sess := rfl
@[simp] theorem accept_pass (s : State) : (accept s).pass = s.pass := rfl
@[simp] theorem accept_step (s : State) : (accept s).step = s.step := rfl
@[simp] theorem accept_pageIdx (s : State) : (accept s).pageIdx = 0 := rfl
@[simp] theorem accept_failReason (s : State) : (accept s).failReason = .none := rfl
@[simp] theorem accept_failPass (s : State) : (accept s).failPass = .none := rfl
@[simp] theorem accept_failStep (s : State) : (accept s).failStep = none := rfl
@[simp] theorem accept_failPage (s : State) : (accept s).failPage = 0 := rfl
@[simp] theorem accept_wAtt (s : State) : (accept s).wAtt = 0 := rfl
@[simp] theorem accept_wOk (s : State) : (accept s).wOk = 0 := rfl
@[simp] theorem accept_vAtt (s : State) : (accept s).vAtt = 0 := rfl
@[simp] theorem accept_vOk (s : State) : (accept s).vOk = 0 := rfl
@[simp] theorem accept_resOk (s : State) : (accept s).resOk = false := rfl
@[simp] theorem accept_busy (s : State) : (accept s).busy = true := rfl
@[simp] theorem accept_contractViol (s : State) : (accept s).contractViol = s.contractViol := rfl
@[simp] theorem accept_own (s : State) : (accept s).own = s.own := rfl
@[simp] theorem accept_rstLine (s : State) : (accept s).rstLine = s.rstLine := rfl
@[simp] theorem accept_modeLine (s : State) : (accept s).modeLine = s.modeLine := rfl
@[simp] theorem accept_start (s : State) : (accept s).start = s.start := rfl
@[simp] theorem accept_abort (s : State) : (accept s).abort = s.abort := rfl
@[simp] theorem accept_rxq (s : State) : (accept s).rxq = s.rxq := rfl
@[simp] theorem accept_tx (s : State) : (accept s).tx = s.tx := rfl
@[simp] theorem accept_src (s : State) : (accept s).src = s.src := rfl
@[simp] theorem accept_trace (s : State) : (accept s).trace = s.trace := rfl
@[simp] theorem accept_cfg (s : State) : (accept s).cfg = s.cfg := rfl
@[simp] theorem accept_ctl (s : State) : (accept s).ctl = s.ctl := rfl
@[simp] theorem accept_env (s : State) : (accept s).env = s.env := rfl
@[simp] theorem accept_unitOut (s : State) : (accept s).unitOut = s.unitOut := rfl

/-! ### `loadPage` -/

@[simp] theorem loadPage_addr (chunk : List Byte) (s : State) : (loadPage chunk s).addr = s.addr := rfl
@[simp] theorem loadPage_pbuf (chunk : List Byte) (s : State) : (loadPage chunk s).pbuf = chunk ++ zeros (pageSize - chunk.length) := rfl
@[simp] theorem loadPage_chunkLen (chunk : List Byte) (s : State) : (loadPage chunk s).chunkLen = BitVec.ofNat 9 chunk.length := rfl
@[simp] theorem loadPage_rxbuf (chunk : List Byte) (s : State) : (loadPage chunk s).rxbuf = s.rxbuf := rfl
@[simp] theorem loadPage_rxLen (chunk : List Byte) (s : State) : (loadPage chunk s).rxLen = s.rxLen := rfl
@[simp] theorem loadPage_sess (chunk : List Byte) (s : State) : (loadPage chunk s).sess = s.sess := rfl
@[simp] theorem loadPage_pass (chunk : List Byte) (s : State) : (loadPage chunk s).pass = s.pass := rfl
@[simp] theorem loadPage_step (chunk : List Byte) (s : State) : (loadPage chunk s).step = s.step := rfl
@[simp] theorem loadPage_pageIdx (chunk : List Byte) (s : State) : (loadPage chunk s).pageIdx = s.pageIdx := rfl
@[simp] theorem loadPage_failReason (chunk : List Byte) (s : State) : (loadPage chunk s).failReason = s.failReason := rfl
@[simp] theorem loadPage_failPass (chunk : List Byte) (s : State) : (loadPage chunk s).failPass = s.failPass := rfl
@[simp] theorem loadPage_failStep (chunk : List Byte) (s : State) : (loadPage chunk s).failStep = s.failStep := rfl
@[simp] theorem loadPage_failPage (chunk : List Byte) (s : State) : (loadPage chunk s).failPage = s.failPage := rfl
@[simp] theorem loadPage_wAtt (chunk : List Byte) (s : State) : (loadPage chunk s).wAtt = s.wAtt := rfl
@[simp] theorem loadPage_wOk (chunk : List Byte) (s : State) : (loadPage chunk s).wOk = s.wOk := rfl
@[simp] theorem loadPage_vAtt (chunk : List Byte) (s : State) : (loadPage chunk s).vAtt = s.vAtt := rfl
@[simp] theorem loadPage_vOk (chunk : List Byte) (s : State) : (loadPage chunk s).vOk = s.vOk := rfl
@[simp] theorem loadPage_resOk (chunk : List Byte) (s : State) : (loadPage chunk s).resOk = s.resOk := rfl
@[simp] theorem loadPage_busy (chunk : List Byte) (s : State) : (loadPage chunk s).busy = s.busy := rfl
@[simp] theorem loadPage_contractViol (chunk : List Byte) (s : State) : (loadPage chunk s).contractViol = s.contractViol := rfl
@[simp] theorem loadPage_own (chunk : List Byte) (s : State) : (loadPage chunk s).own = s.own := rfl
@[simp] theorem loadPage_rstLine (chunk : List Byte) (s : State) : (loadPage chunk s).rstLine = s.rstLine := rfl
@[simp] theorem loadPage_modeLine (chunk : List Byte) (s : State) : (loadPage chunk s).modeLine = s.modeLine := rfl
@[simp] theorem loadPage_start (chunk : List Byte) (s : State) : (loadPage chunk s).start = s.start := rfl
@[simp] theorem loadPage_abort (chunk : List Byte) (s : State) : (loadPage chunk s).abort = s.abort := rfl
@[simp] theorem loadPage_rxq (chunk : List Byte) (s : State) : (loadPage chunk s).rxq = s.rxq := rfl
@[simp] theorem loadPage_tx (chunk : List Byte) (s : State) : (loadPage chunk s).tx = s.tx := rfl
@[simp] theorem loadPage_src (chunk : List Byte) (s : State) : (loadPage chunk s).src = s.src := rfl
@[simp] theorem loadPage_trace (chunk : List Byte) (s : State) : (loadPage chunk s).trace = s.trace := rfl
@[simp] theorem loadPage_cfg (chunk : List Byte) (s : State) : (loadPage chunk s).cfg = s.cfg := rfl
@[simp] theorem loadPage_ctl (chunk : List Byte) (s : State) : (loadPage chunk s).ctl = s.ctl := rfl
@[simp] theorem loadPage_env (chunk : List Byte) (s : State) : (loadPage chunk s).env = s.env := rfl
@[simp] theorem loadPage_unitOut (chunk : List Byte) (s : State) : (loadPage chunk s).unitOut = s.unitOut := rfl

/-! ### `startPass` -/

@[simp] theorem startPass_addr (verify : Bool) (s : State) : (startPass verify s).addr = be32 s.cfg.base := rfl
@[simp] theorem startPass_pbuf (verify : Bool) (s : State) : (startPass verify s).pbuf = s.pbuf := rfl
@[simp] theorem startPass_chunkLen (verify : Bool) (s : State) : (startPass verify s).chunkLen = s.chunkLen := rfl
@[simp] theorem startPass_rxbuf (verify : Bool) (s : State) : (startPass verify s).rxbuf = s.rxbuf := rfl
@[simp] theorem startPass_rxLen (verify : Bool) (s : State) : (startPass verify s).rxLen = s.rxLen := rfl
@[simp] theorem startPass_sess (verify : Bool) (s : State) : (startPass verify s).sess = .transferring := rfl
@[simp] theorem startPass_pass (verify : Bool) (s : State) : (startPass verify s).pass = loopPass verify := rfl
@[simp] theorem startPass_step (verify : Bool) (s : State) : (startPass verify s).step = s.step := rfl
@[simp] theorem startPass_pageIdx (verify : Bool) (s : State) : (startPass verify s).pageIdx = 0 := rfl
@[simp] theorem startPass_failReason (verify : Bool) (s : State) : (startPass verify s).failReason = s.failReason := rfl
@[simp] theorem startPass_failPass (verify : Bool) (s : State) : (startPass verify s).failPass = s.failPass := rfl
@[simp] theorem startPass_failStep (verify : Bool) (s : State) : (startPass verify s).failStep = s.failStep := rfl
@[simp] theorem startPass_failPage (verify : Bool) (s : State) : (startPass verify s).failPage = s.failPage := rfl
@[simp] theorem startPass_wAtt (verify : Bool) (s : State) : (startPass verify s).wAtt = s.wAtt := rfl
@[simp] theorem startPass_wOk (verify : Bool) (s : State) : (startPass verify s).wOk = s.wOk := rfl
@[simp] theorem startPass_vAtt (verify : Bool) (s : State) : (startPass verify s).vAtt = s.vAtt := rfl
@[simp] theorem startPass_vOk (verify : Bool) (s : State) : (startPass verify s).vOk = s.vOk := rfl
@[simp] theorem startPass_resOk (verify : Bool) (s : State) : (startPass verify s).resOk = s.resOk := rfl
@[simp] theorem startPass_busy (verify : Bool) (s : State) : (startPass verify s).busy = s.busy := rfl
@[simp] theorem startPass_contractViol (verify : Bool) (s : State) : (startPass verify s).contractViol = s.contractViol := rfl
@[simp] theorem startPass_own (verify : Bool) (s : State) : (startPass verify s).own = s.own := rfl
@[simp] theorem startPass_rstLine (verify : Bool) (s : State) : (startPass verify s).rstLine = s.rstLine := rfl
@[simp] theorem startPass_modeLine (verify : Bool) (s : State) : (startPass verify s).modeLine = s.modeLine := rfl
@[simp] theorem startPass_start (verify : Bool) (s : State) : (startPass verify s).start = s.start := rfl
@[simp] theorem startPass_abort (verify : Bool) (s : State) : (startPass verify s).abort = s.abort := rfl
@[simp] theorem startPass_rxq (verify : Bool) (s : State) : (startPass verify s).rxq = s.rxq := rfl
@[simp] theorem startPass_tx (verify : Bool) (s : State) : (startPass verify s).tx = s.tx := rfl
@[simp] theorem startPass_src (verify : Bool) (s : State) : (startPass verify s).src = ⟨s.src.bytes, 0⟩ := rfl
@[simp] theorem startPass_trace (verify : Bool) (s : State) : (startPass verify s).trace = s.trace ++ [.srcRewind] := rfl
@[simp] theorem startPass_cfg (verify : Bool) (s : State) : (startPass verify s).cfg = s.cfg := rfl
@[simp] theorem startPass_ctl (verify : Bool) (s : State) : (startPass verify s).ctl = s.ctl := rfl
@[simp] theorem startPass_env (verify : Bool) (s : State) : (startPass verify s).env = s.env := rfl
@[simp] theorem startPass_unitOut (verify : Bool) (s : State) : (startPass verify s).unitOut = s.unitOut := rfl

/-! ### `recordFailure` -/

@[simp] theorem recordFailure_addr (reason : FailReason) (st : Option StepId) (page : Word32) (s : State) : (recordFailure reason st page s).addr = s.addr := by unfold recordFailure; split <;> rfl
@[simp] theorem recordFailure_pbuf (reason : FailReason) (st : Option StepId) (page : Word32) (s : State) : (recordFailure reason st page s).pbuf = s.pbuf := by unfold recordFailure; split <;> rfl
@[simp] theorem recordFailure_chunkLen (reason : FailReason) (st : Option StepId) (page : Word32) (s : State) : (recordFailure reason st page s).chunkLen = s.chunkLen := by unfold recordFailure; split <;> rfl
@[simp] theorem recordFailure_rxbuf (reason : FailReason) (st : Option StepId) (page : Word32) (s : State) : (recordFailure reason st page s).rxbuf = s.rxbuf := by unfold recordFailure; split <;> rfl
@[simp] theorem recordFailure_rxLen (reason : FailReason) (st : Option StepId) (page : Word32) (s : State) : (recordFailure reason st page s).rxLen = s.rxLen := by unfold recordFailure; split <;> rfl
@[simp] theorem recordFailure_sess (reason : FailReason) (st : Option StepId) (page : Word32) (s : State) : (recordFailure reason st page s).sess = s.sess := by unfold recordFailure; split <;> rfl
@[simp] theorem recordFailure_pass (reason : FailReason) (st : Option StepId) (page : Word32) (s : State) : (recordFailure reason st page s).pass = s.pass := by unfold recordFailure; split <;> rfl
@[simp] theorem recordFailure_step (reason : FailReason) (st : Option StepId) (page : Word32) (s : State) : (recordFailure reason st page s).step = s.step := by unfold recordFailure; split <;> rfl
@[simp] theorem recordFailure_pageIdx (reason : FailReason) (st : Option StepId) (page : Word32) (s : State) : (recordFailure reason st page s).pageIdx = s.pageIdx := by unfold recordFailure; split <;> rfl
@[simp] theorem recordFailure_wAtt (reason : FailReason) (st : Option StepId) (page : Word32) (s : State) : (recordFailure reason st page s).wAtt = s.wAtt := by unfold recordFailure; split <;> rfl
@[simp] theorem recordFailure_wOk (reason : FailReason) (st : Option StepId) (page : Word32) (s : State) : (recordFailure reason st page s).wOk = s.wOk := by unfold recordFailure; split <;> rfl
@[simp] theorem recordFailure_vAtt (reason : FailReason) (st : Option StepId) (page : Word32) (s : State) : (recordFailure reason st page s).vAtt = s.vAtt := by unfold recordFailure; split <;> rfl
@[simp] theorem recordFailure_vOk (reason : FailReason) (st : Option StepId) (page : Word32) (s : State) : (recordFailure reason st page s).vOk = s.vOk := by unfold recordFailure; split <;> rfl
@[simp] theorem recordFailure_resOk (reason : FailReason) (st : Option StepId) (page : Word32) (s : State) : (recordFailure reason st page s).resOk = s.resOk := by unfold recordFailure; split <;> rfl
@[simp] theorem recordFailure_busy (reason : FailReason) (st : Option StepId) (page : Word32) (s : State) : (recordFailure reason st page s).busy = s.busy := by unfold recordFailure; split <;> rfl
@[simp] theorem recordFailure_contractViol (reason : FailReason) (st : Option StepId) (page : Word32) (s : State) : (recordFailure reason st page s).contractViol = s.contractViol := by unfold recordFailure; split <;> rfl
@[simp] theorem recordFailure_own (reason : FailReason) (st : Option StepId) (page : Word32) (s : State) : (recordFailure reason st page s).own = s.own := by unfold recordFailure; split <;> rfl
@[simp] theorem recordFailure_rstLine (reason : FailReason) (st : Option StepId) (page : Word32) (s : State) : (recordFailure reason st page s).rstLine = s.rstLine := by unfold recordFailure; split <;> rfl
@[simp] theorem recordFailure_modeLine (reason : FailReason) (st : Option StepId) (page : Word32) (s : State) : (recordFailure reason st page s).modeLine = s.modeLine := by unfold recordFailure; split <;> rfl
@[simp] theorem recordFailure_start (reason : FailReason) (st : Option StepId) (page : Word32) (s : State) : (recordFailure reason st page s).start = s.start := by unfold recordFailure; split <;> rfl
@[simp] theorem recordFailure_abort (reason : FailReason) (st : Option StepId) (page : Word32) (s : State) : (recordFailure reason st page s).abort = s.abort := by unfold recordFailure; split <;> rfl
@[simp] theorem recordFailure_rxq (reason : FailReason) (st : Option StepId) (page : Word32) (s : State) : (recordFailure reason st page s).rxq = s.rxq := by unfold recordFailure; split <;> rfl
@[simp] theorem recordFailure_tx (reason : FailReason) (st : Option StepId) (page : Word32) (s : State) : (recordFailure reason st page s).tx = s.tx := by unfold recordFailure; split <;> rfl
@[simp] theorem recordFailure_src (reason : FailReason) (st : Option StepId) (page : Word32) (s : State) : (recordFailure reason st page s).src = s.src := by unfold recordFailure; split <;> rfl
@[simp] theorem recordFailure_trace (reason : FailReason) (st : Option StepId) (page : Word32) (s : State) : (recordFailure reason st page s).trace = s.trace := by unfold recordFailure; split <;> rfl
@[simp] theorem recordFailure_cfg (reason : FailReason) (st : Option StepId) (page : Word32) (s : State) : (recordFailure reason st page s).cfg = s.cfg := by unfold recordFailure; split <;> rfl
@[simp] theorem recordFailure_ctl (reason : FailReason) (st : Option StepId) (page : Word32) (s : State) : (recordFailure reason st page s).ctl = s.ctl := by unfold recordFailure; split <;> rfl
@[simp] theorem recordFailure_env (reason : FailReason) (st : Option StepId) (page : Word32) (s : State) : (recordFailure reason st page s).env = s.env := by unfold recordFailure; split <;> rfl
@[simp] theorem recordFailure_unitOut (reason : FailReason) (st : Option StepId) (page : Word32) (s : State) : (recordFailure reason st page s).unitOut = s.unitOut := by unfold recordFailure; split <;> rfl

/-! ### `raiseFail` -/

@[simp] theorem raiseFail_addr (reason : FailReason) (st : StepId) (s : State) : (raiseFail reason st s).addr = s.addr := by simp [raiseFail]
@[simp] theorem raiseFail_pbuf (reason : FailReason) (st : StepId) (s : State) : (raiseFail reason st s).pbuf = s.pbuf := by simp [raiseFail]
@[simp] theorem raiseFail_chunkLen (reason : FailReason) (st : StepId) (s : State) : (raiseFail reason st s).chunkLen = s.chunkLen := by simp [raiseFail]
@[simp] theorem raiseFail_rxbuf (reason : FailReason) (st : StepId) (s : State) : (raiseFail reason st s).rxbuf = s.rxbuf := by simp [raiseFail]
@[simp] theorem raiseFail_rxLen (reason : FailReason) (st : StepId) (s : State) : (raiseFail reason st s).rxLen = s.rxLen := by simp [raiseFail]
@[simp] theorem raiseFail_sess (reason : FailReason) (st : StepId) (s : State) : (raiseFail reason st s).sess = if s.pass = .setup then .faulted else s.sess := rfl
@[simp] theorem raiseFail_pass (reason : FailReason) (st : StepId) (s : State) : (raiseFail reason st s).pass = s.pass := by simp [raiseFail]
@[simp] theorem raiseFail_step (reason : FailReason) (st : StepId) (s : State) : (raiseFail reason st s).step = s.step := by simp [raiseFail]
@[simp] theorem raiseFail_pageIdx (reason : FailReason) (st : StepId) (s : State) : (raiseFail reason st s).pageIdx = s.pageIdx := by simp [raiseFail]
@[simp] theorem raiseFail_wAtt (reason : FailReason) (st : StepId) (s : State) : (raiseFail reason st s).wAtt = s.wAtt := by simp [raiseFail]
@[simp] theorem raiseFail_wOk (reason : FailReason) (st : StepId) (s : State) : (raiseFail reason st s).wOk = s.wOk := by simp [raiseFail]
@[simp] theorem raiseFail_vAtt (reason : FailReason) (st : StepId) (s : State) : (raiseFail reason st s).vAtt = s.vAtt := by simp [raiseFail]
@[simp] theorem raiseFail_vOk (reason : FailReason) (st : StepId) (s : State) : (raiseFail reason st s).vOk = s.vOk := by simp [raiseFail]
@[simp] theorem raiseFail_resOk (reason : FailReason) (st : StepId) (s : State) : (raiseFail reason st s).resOk = s.resOk := by simp [raiseFail]
@[simp] theorem raiseFail_busy (reason : FailReason) (st : StepId) (s : State) : (raiseFail reason st s).busy = s.busy := by simp [raiseFail]
@[simp] theorem raiseFail_contractViol (reason : FailReason) (st : StepId) (s : State) : (raiseFail reason st s).contractViol = s.contractViol := by simp [raiseFail]
@[simp] theorem raiseFail_own (reason : FailReason) (st : StepId) (s : State) : (raiseFail reason st s).own = s.own := by simp [raiseFail]
@[simp] theorem raiseFail_rstLine (reason : FailReason) (st : StepId) (s : State) : (raiseFail reason st s).rstLine = s.rstLine := by simp [raiseFail]
@[simp] theorem raiseFail_modeLine (reason : FailReason) (st : StepId) (s : State) : (raiseFail reason st s).modeLine = s.modeLine := by simp [raiseFail]
@[simp] theorem raiseFail_start (reason : FailReason) (st : StepId) (s : State) : (raiseFail reason st s).start = s.start := by simp [raiseFail]
@[simp] theorem raiseFail_abort (reason : FailReason) (st : StepId) (s : State) : (raiseFail reason st s).abort = s.abort := by simp [raiseFail]
@[simp] theorem raiseFail_rxq (reason : FailReason) (st : StepId) (s : State) : (raiseFail reason st s).rxq = s.rxq := by simp [raiseFail]
@[simp] theorem raiseFail_tx (reason : FailReason) (st : StepId) (s : State) : (raiseFail reason st s).tx = s.tx := by simp [raiseFail]
@[simp] theorem raiseFail_src (reason : FailReason) (st : StepId) (s : State) : (raiseFail reason st s).src = s.src := by simp [raiseFail]
@[simp] theorem raiseFail_trace (reason : FailReason) (st : StepId) (s : State) : (raiseFail reason st s).trace = s.trace := by simp [raiseFail]
@[simp] theorem raiseFail_cfg (reason : FailReason) (st : StepId) (s : State) : (raiseFail reason st s).cfg = s.cfg := by simp [raiseFail]
@[simp] theorem raiseFail_ctl (reason : FailReason) (st : StepId) (s : State) : (raiseFail reason st s).ctl = .closing 0 := rfl
@[simp] theorem raiseFail_env (reason : FailReason) (st : StepId) (s : State) : (raiseFail reason st s).env = s.env := by simp [raiseFail]
@[simp] theorem raiseFail_unitOut (reason : FailReason) (st : StepId) (s : State) : (raiseFail reason st s).unitOut = s.unitOut := by simp [raiseFail]

/-! ### `raiseAbort` -/

@[simp] theorem raiseAbort_addr (s : State) : (raiseAbort s).addr = s.addr := by simp [raiseAbort]
@[simp] theorem raiseAbort_pbuf (s : State) : (raiseAbort s).pbuf = s.pbuf := by simp [raiseAbort]
@[simp] theorem raiseAbort_chunkLen (s : State) : (raiseAbort s).chunkLen = s.chunkLen := by simp [raiseAbort]
@[simp] theorem raiseAbort_rxbuf (s : State) : (raiseAbort s).rxbuf = s.rxbuf := by simp [raiseAbort]
@[simp] theorem raiseAbort_rxLen (s : State) : (raiseAbort s).rxLen = s.rxLen := by simp [raiseAbort]
@[simp] theorem raiseAbort_sess (s : State) : (raiseAbort s).sess = s.sess := by simp [raiseAbort]
@[simp] theorem raiseAbort_pass (s : State) : (raiseAbort s).pass = s.pass := by simp [raiseAbort]
@[simp] theorem raiseAbort_step (s : State) : (raiseAbort s).step = s.step := by simp [raiseAbort]
@[simp] theorem raiseAbort_pageIdx (s : State) : (raiseAbort s).pageIdx = s.pageIdx := by simp [raiseAbort]
@[simp] theorem raiseAbort_wAtt (s : State) : (raiseAbort s).wAtt = s.wAtt := by simp [raiseAbort]
@[simp] theorem raiseAbort_wOk (s : State) : (raiseAbort s).wOk = s.wOk := by simp [raiseAbort]
@[simp] theorem raiseAbort_vAtt (s : State) : (raiseAbort s).vAtt = s.vAtt := by simp [raiseAbort]
@[simp] theorem raiseAbort_vOk (s : State) : (raiseAbort s).vOk = s.vOk := by simp [raiseAbort]
@[simp] theorem raiseAbort_resOk (s : State) : (raiseAbort s).resOk = s.resOk := by simp [raiseAbort]
@[simp] theorem raiseAbort_busy (s : State) : (raiseAbort s).busy = s.busy := by simp [raiseAbort]
@[simp] theorem raiseAbort_contractViol (s : State) : (raiseAbort s).contractViol = s.contractViol := by simp [raiseAbort]
@[simp] theorem raiseAbort_own (s : State) : (raiseAbort s).own = s.own := by simp [raiseAbort]
@[simp] theorem raiseAbort_rstLine (s : State) : (raiseAbort s).rstLine = s.rstLine := by simp [raiseAbort]
@[simp] theorem raiseAbort_modeLine (s : State) : (raiseAbort s).modeLine = s.modeLine := by simp [raiseAbort]
@[simp] theorem raiseAbort_start (s : State) : (raiseAbort s).start = s.start := by simp [raiseAbort]
@[simp] theorem raiseAbort_abort (s : State) : (raiseAbort s).abort = s.abort := by simp [raiseAbort]
@[simp] theorem raiseAbort_rxq (s : State) : (raiseAbort s).rxq = s.rxq := by simp [raiseAbort]
@[simp] theorem raiseAbort_tx (s : State) : (raiseAbort s).tx = s.tx := by simp [raiseAbort]
@[simp] theorem raiseAbort_src (s : State) : (raiseAbort s).src = s.src := by simp [raiseAbort]
@[simp] theorem raiseAbort_trace (s : State) : (raiseAbort s).trace = s.trace := by simp [raiseAbort]
@[simp] theorem raiseAbort_cfg (s : State) : (raiseAbort s).cfg = s.cfg := by simp [raiseAbort]
@[simp] theorem raiseAbort_ctl (s : State) : (raiseAbort s).ctl = .closing 0 := rfl
@[simp] theorem raiseAbort_env (s : State) : (raiseAbort s).env = s.env := by simp [raiseAbort]
@[simp] theorem raiseAbort_unitOut (s : State) : (raiseAbort s).unitOut = s.unitOut := by simp [raiseAbort]

/-! ### `finish` -/

@[simp] theorem finish_addr (s : State) : (finish s).addr = s.addr := rfl
@[simp] theorem finish_pbuf (s : State) : (finish s).pbuf = s.pbuf := rfl
@[simp] theorem finish_chunkLen (s : State) : (finish s).chunkLen = s.chunkLen := rfl
@[simp] theorem finish_rxbuf (s : State) : (finish s).rxbuf = s.rxbuf := rfl
@[simp] theorem finish_rxLen (s : State) : (finish s).rxLen = s.rxLen := rfl
@[simp] theorem finish_sess (s : State) : (finish s).sess = s.sess := rfl
@[simp] theorem finish_pass (s : State) : (finish s).pass = s.pass := rfl
@[simp] theorem finish_step (s : State) : (finish s).step = s.step := rfl
@[simp] theorem finish_pageIdx (s : State) : (finish s).pageIdx = s.pageIdx := rfl
@[simp] theorem finish_failReason (s : State) : (finish s).failReason = s.failReason := rfl
@[simp] theorem finish_failPass (s : State) : (finish s).failPass = s.failPass := rfl
@[simp] theorem finish_failStep (s : State) : (finish s).failStep = s.failStep := rfl
@[simp] theorem finish_failPage (s : State) : (finish s).failPage = s.failPage := rfl
@[simp] theorem finish_wAtt (s : State) : (finish s).wAtt = s.wAtt := rfl
@[simp] theorem finish_wOk (s : State) : (finish s).wOk = s.wOk := rfl
@[simp] theorem finish_vAtt (s : State) : (finish s).vAtt = s.vAtt := rfl
@[simp] theorem finish_vOk (s : State) : (finish s).vOk = s.vOk := rfl
@[simp] theorem finish_resOk (s : State) : (finish s).resOk = decide (s.failReason = .none) := rfl
@[simp] theorem finish_busy (s : State) : (finish s).busy = false := rfl
@[simp] theorem finish_contractViol (s : State) : (finish s).contractViol = s.contractViol := rfl
@[simp] theorem finish_own (s : State) : (finish s).own = s.own := rfl
@[simp] theorem finish_rstLine (s : State) : (finish s).rstLine = s.rstLine := rfl
@[simp] theorem finish_modeLine (s : State) : (finish s).modeLine = s.modeLine := rfl
@[simp] theorem finish_start (s : State) : (finish s).start = s.start := rfl
@[simp] theorem finish_abort (s : State) : (finish s).abort = s.abort := rfl
@[simp] theorem finish_rxq (s : State) : (finish s).rxq = s.rxq := rfl
@[simp] theorem finish_tx (s : State) : (finish s).tx = s.tx := rfl
@[simp] theorem finish_src (s : State) : (finish s).src = s.src := rfl
@[simp] theorem finish_trace (s : State) : (finish s).trace = s.trace ++ [.done (result { s with resOk := decide (s.failReason = .none), busy := false, ctl := .rest })] := rfl
@[simp] theorem finish_cfg (s : State) : (finish s).cfg = s.cfg := rfl
@[simp] theorem finish_ctl (s : State) : (finish s).ctl = .rest := rfl
@[simp] theorem finish_env (s : State) : (finish s).env = s.env := rfl
@[simp] theorem finish_unitOut (s : State) : (finish s).unitOut = s.unitOut := rfl

/-! ### `driveStart` -/

@[simp] theorem driveStart_addr (level : Bool) (s : State) : (driveStart level s).addr = s.addr := rfl
@[simp] theorem driveStart_pbuf (level : Bool) (s : State) : (driveStart level s).pbuf = s.pbuf := rfl
@[simp] theorem driveStart_chunkLen (level : Bool) (s : State) : (driveStart level s).chunkLen = s.chunkLen := rfl
@[simp] theorem driveStart_rxbuf (level : Bool) (s : State) : (driveStart level s).rxbuf = s.rxbuf := rfl
@[simp] theorem driveStart_rxLen (level : Bool) (s : State) : (driveStart level s).rxLen = s.rxLen := rfl
@[simp] theorem driveStart_sess (level : Bool) (s : State) : (driveStart level s).sess = s.sess := rfl
@[simp] theorem driveStart_pass (level : Bool) (s : State) : (driveStart level s).pass = s.pass := rfl
@[simp] theorem driveStart_step (level : Bool) (s : State) : (driveStart level s).step = s.step := rfl
@[simp] theorem driveStart_pageIdx (level : Bool) (s : State) : (driveStart level s).pageIdx = s.pageIdx := rfl
@[simp] theorem driveStart_failReason (level : Bool) (s : State) : (driveStart level s).failReason = s.failReason := rfl
@[simp] theorem driveStart_failPass (level : Bool) (s : State) : (driveStart level s).failPass = s.failPass := rfl
@[simp] theorem driveStart_failStep (level : Bool) (s : State) : (driveStart level s).failStep = s.failStep := rfl
@[simp] theorem driveStart_failPage (level : Bool) (s : State) : (driveStart level s).failPage = s.failPage := rfl
@[simp] theorem driveStart_wAtt (level : Bool) (s : State) : (driveStart level s).wAtt = s.wAtt := rfl
@[simp] theorem driveStart_wOk (level : Bool) (s : State) : (driveStart level s).wOk = s.wOk := rfl
@[simp] theorem driveStart_vAtt (level : Bool) (s : State) : (driveStart level s).vAtt = s.vAtt := rfl
@[simp] theorem driveStart_vOk (level : Bool) (s : State) : (driveStart level s).vOk = s.vOk := rfl
@[simp] theorem driveStart_resOk (level : Bool) (s : State) : (driveStart level s).resOk = s.resOk := rfl
@[simp] theorem driveStart_busy (level : Bool) (s : State) : (driveStart level s).busy = s.busy := rfl
@[simp] theorem driveStart_contractViol (level : Bool) (s : State) : (driveStart level s).contractViol = (s.contractViol || (level && !s.start && s.busy)) := rfl
@[simp] theorem driveStart_own (level : Bool) (s : State) : (driveStart level s).own = s.own := rfl
@[simp] theorem driveStart_rstLine (level : Bool) (s : State) : (driveStart level s).rstLine = s.rstLine := rfl
@[simp] theorem driveStart_modeLine (level : Bool) (s : State) : (driveStart level s).modeLine = s.modeLine := rfl
@[simp] theorem driveStart_start (level : Bool) (s : State) : (driveStart level s).start = level := rfl
@[simp] theorem driveStart_abort (level : Bool) (s : State) : (driveStart level s).abort = s.abort := rfl
@[simp] theorem driveStart_rxq (level : Bool) (s : State) : (driveStart level s).rxq = s.rxq := rfl
@[simp] theorem driveStart_tx (level : Bool) (s : State) : (driveStart level s).tx = s.tx := rfl
@[simp] theorem driveStart_src (level : Bool) (s : State) : (driveStart level s).src = s.src := rfl
@[simp] theorem driveStart_trace (level : Bool) (s : State) : (driveStart level s).trace = s.trace := rfl
@[simp] theorem driveStart_cfg (level : Bool) (s : State) : (driveStart level s).cfg = s.cfg := rfl
@[simp] theorem driveStart_ctl (level : Bool) (s : State) : (driveStart level s).ctl = s.ctl := rfl
@[simp] theorem driveStart_env (level : Bool) (s : State) : (driveStart level s).env = s.env := rfl
@[simp] theorem driveStart_unitOut (level : Bool) (s : State) : (driveStart level s).unitOut = s.unitOut := rfl

/-! ### The failure record -/

/-- The first failure of an operation is recorded (R284). -/
theorem recordFailure_first (reason : FailReason) (st : Option StepId) (page : Word32) (s : State)
    (h : s.failReason = .none) :
    recordFailure reason st page s =
      { s with failReason := reason, failPass := s.pass, failStep := st, failPage := page } := if_pos h

/-- A later one is not (R31). -/
theorem recordFailure_later (reason : FailReason) (st : Option StepId) (page : Word32) (s : State)
    (h : s.failReason ≠ .none) : recordFailure reason st page s = s := if_neg h

/-- After a failure a failure is on record (R284). -/
theorem recordFailure_recorded (reason : FailReason) (st : Option StepId) (page : Word32) (s : State)
    (h : reason ≠ .none) : (recordFailure reason st page s).failReason ≠ .none := by
  unfold recordFailure
  split
  · exact h
  · assumption

end Sys2Proof.Machine
end

