-- ==== Sys2Proof/Laws/Ops.lean ====
section
/-! SUPPORT. One lemma per shared operation that says once everything it can do: the moves of the other
agents, the wait, `ReadBytes`, `Exchange` and the command steps. -/

namespace Sys2Proof.Machine

/-! ### The other agents -/

/-- What moves of the other agents short of a reset can change: `RXQ`, `CONTRACT_VIOL`, the two inputs, the
source and the schedule; while `BUSY = 1` not the source, and while the link is taken no byte leaves `RXQ`. -/
structure OthersMoved (s t : State) : Prop where
  same : t = { s with
    rxq := t.rxq, contractViol := t.contractViol, start := t.start, abort := t.abort, src := t.src,
    env := t.env }
  busy : s.busy = true → t.src = s.src
  link : linkTaken s = true → s.rxq <+: t.rxq
  sticky : s.contractViol = true → t.contractViol = true

theorem OthersMoved.refl (s : State) : OthersMoved s s :=
  ⟨rfl, fun _ => rfl, fun _ => List.prefix_refl _, id⟩

theorem OthersMoved.trans {s t u : State} (h₁ : OthersMoved s t) (h₂ : OthersMoved t u) : OthersMoved s u := by
  have hb : t.busy = s.busy := by rw [h₁.same]
  have hl : linkTaken t = linkTaken s := by rw [h₁.same]; rfl
  refine ⟨?_, fun h => ?_, fun h => ?_, fun h => h₂.sticky (h₁.sticky h)⟩
  · rw [h₂.same, h₁.same]
  · exact (h₂.busy (hb ▸ h)).trans (h₁.busy h)
  · exact (h₁.link h).trans (h₂.link (hl ▸ h))

/-- Spending the head of the schedule is a move of the others. -/
theorem OthersMoved.env (s : State) (e : List EnvMove) : OthersMoved s { s with env := e } :=
  ⟨rfl, fun _ => rfl, fun _ => List.prefix_refl _, id⟩

/-- Everything one move of another agent can do. -/
theorem otherMove_spec (m : EnvMove) (s : State) :
    match otherMove m s with
    | .on t => OthersMoved s t ∧ t.env = s.env ∧ m ≠ .reset
    | .reset t => t = engineReset s ∧ m = .reset
    | .broken => m.keepsContract = false := by
  cases m with
  | engine => exact ⟨OthersMoved.refl s, rfl, by simp⟩
  | timer => exact ⟨OthersMoved.refl s, rfl, by simp⟩
  | target bytes =>
    exact ⟨⟨rfl, fun _ => rfl, fun _ => List.prefix_append _ _, id⟩, rfl, by simp⟩
  | start level =>
    exact ⟨⟨rfl, fun _ => rfl, fun _ => List.prefix_refl _, fun h => by simp [h]⟩, rfl, by simp⟩
  | abort level => exact ⟨⟨rfl, fun _ => rfl, fun _ => List.prefix_refl _, id⟩, rfl, by simp⟩
  | attach image pos =>
    by_cases hc : s.busy = false ∧ image.length < 2 ^ 32 ∧ pos ≤ image.length
    · rw [show otherMove (.attach image pos) s = .on { s with src := ⟨image, pos⟩ } from if_pos hc]
      exact ⟨⟨rfl, fun h => absurd h (by simp [hc.1]), fun _ => List.prefix_refl _, id⟩, rfl, by simp⟩
    · rw [show otherMove (.attach image pos) s = .broken from if_neg hc]
      rfl
  | takeLink count =>
    by_cases ho : linkTaken s = true
    · rw [show otherMove (.takeLink count) s = .broken from if_pos ho]
      rfl
    · rw [show otherMove (.takeLink count) s = .on { s with rxq := s.rxq.drop count } from if_neg ho]
      exact ⟨⟨rfl, fun _ => rfl, fun h => absurd h ho, id⟩, rfl, by simp⟩
  | driveLines =>
    by_cases ho : linkTaken s = true
    · rw [show otherMove .driveLines s = .broken from if_pos ho]
      rfl
    · rw [show otherMove .driveLines s = .on s from if_neg ho]
      exact ⟨OthersMoved.refl s, rfl, by simp⟩
  | reset => exact ⟨rfl, rfl⟩

/-! ### The wait -/

/-- Everything `WaitForBytes` can come to (R151): bytes enough, or bytes missing, after moves of the others
only; a reset among those moves; or a move that breaks the host contract. -/
theorem waitLoop_spec (n : Nat) (moves : List EnvMove) (s : State) (he : s.env = moves) :
    match waitLoop n moves s with
    | .avail t => n ≤ t.rxq.length ∧ OthersMoved s t
    | .timeout t => t.rxq.length < n ∧ OthersMoved s t
    | .reset t => ∃ u, OthersMoved s u ∧ t = engineReset u ∧ EnvMove.reset ∈ moves
    | .broken => ∃ m ∈ moves, m.keepsContract = false := by
  induction moves generalizing s with
  | nil =>
    unfold waitLoop
    by_cases h : n ≤ s.rxq.length
    · simp only [h, if_true]
      exact ⟨trivial, OthersMoved.refl s⟩
    · simp only [h, if_false]
      exact ⟨Nat.lt_of_not_le h, OthersMoved.refl s⟩
  | cons m rest ih =>
    unfold waitLoop
    by_cases h : n ≤ s.rxq.length
    · simp only [h, if_true]
      exact ⟨trivial, OthersMoved.refl s⟩
    · simp only [h, if_false]
      by_cases ht : m = .timer
      · simp only [ht, if_true]
        exact ⟨Nat.lt_of_not_le h, OthersMoved.env s rest⟩
      · simp only [ht, if_false]
        have hm := otherMove_spec m { s with env := rest }
        cases hmv : otherMove m { s with env := rest } with
        | on t =>
          simp only [hmv] at hm ⊢
          have hs : OthersMoved s t := (OthersMoved.env s rest).trans hm.1
          have := ih t hm.2.1
          cases hw : waitLoop n rest t with
          | avail u => simp only [hw] at this ⊢; exact ⟨this.1, hs.trans this.2⟩
          | timeout u => simp only [hw] at this ⊢; exact ⟨this.1, hs.trans this.2⟩
          | reset u =>
            simp only [hw] at this ⊢
            obtain ⟨v, hv, hu, hr⟩ := this
            exact ⟨v, hs.trans hv, hu, List.mem_cons_of_mem _ hr⟩
          | broken =>
            simp only [hw] at this ⊢
            obtain ⟨x, hx, hk⟩ := this
            exact ⟨x, List.mem_cons_of_mem _ hx, hk⟩
        | reset t =>
          simp only [hmv] at hm ⊢
          exact ⟨_, OthersMoved.env s rest, hm.1, by simp [hm.2]⟩
        | broken =>
          simp only [hmv] at hm ⊢
          exact ⟨m, List.mem_cons_self, hm⟩

/-- The queue is examined before anything else: with the bytes there, no other agent moves (R151). -/
theorem waitForBytes_ready (n : Nat) (s : State) (h : n ≤ s.rxq.length) : waitForBytes n s = .avail s := by
  unfold waitForBytes
  cases s.env <;> simp [waitLoop, h]

/-- Everything `WaitForBytes` can come to, for the schedule of the state. -/
theorem waitForBytes_spec (n : Nat) (s : State) :
    match waitForBytes n s with
    | .avail t => n ≤ t.rxq.length ∧ OthersMoved s t
    | .timeout t => t.rxq.length < n ∧ OthersMoved s t
    | .reset t => ∃ u, OthersMoved s u ∧ t = engineReset u ∧ EnvMove.reset ∈ s.env
    | .broken => ∃ m ∈ s.env, m.keepsContract = false :=
  waitLoop_spec n s.env s rfl

/-! ### `ReadBytes` and `Exchange` -/

/-- `ReadBytes` with the bytes there (R152). -/
theorem readBytes_ready (n : Nat) (s : State) (h : n ≤ s.rxq.length) :
    readBytes n s = some (s.rxq.take n, emit (.rx (s.rxq.take n))
      { s with rxq := s.rxq.drop n, rxbuf := fillRxbuf (s.rxq.take n) s.rxbuf, rxLen := BitVec.ofNat 9 n }) := by
  simp [readBytes, h]

/-- `RXBUF` keeps its 257 registers. -/
theorem fillRxbuf_length (bytes old : List Byte) (h : old.length = 257) : (fillRxbuf bytes old).length = 257 := by
  simp only [fillRxbuf, List.length_take, List.length_append, List.length_drop, h]
  omega

/-- Everything `Exchange` can come to (R153): `v` is the state after the wait, which only the other agents
have moved since the request was sent. -/
theorem exchange_spec (frame : List Byte) (n : Nat) (st : StepId) (s : State) :
    match exchange frame n st s with
    | .ok t => ∃ v, OthersMoved (send frame { s with step := some st }) v ∧ n ≤ v.rxq.length ∧
        (v.rxq.take n).head? = some v.cfg.wire.ack ∧
        t = emit (.rx (v.rxq.take n)) { v with
          rxq := v.rxq.drop n, rxbuf := fillRxbuf (v.rxq.take n) v.rxbuf, rxLen := BitVec.ofNat 9 n }
    | .fail t => ∃ v, OthersMoved (send frame { s with step := some st }) v ∧
        ((v.rxq.length < n ∧ t = raiseFail .timeout st v) ∨
          (n ≤ v.rxq.length ∧ (v.rxq.take n).head? ≠ some v.cfg.wire.ack ∧
            t = raiseFail .protocolNack st (emit (.rx (v.rxq.take n)) { v with
              rxq := v.rxq.drop n, rxbuf := fillRxbuf (v.rxq.take n) v.rxbuf, rxLen := BitVec.ofNat 9 n })))
    | .reset t => ∃ v, OthersMoved (send frame { s with step := some st }) v ∧ t = engineReset v ∧
        EnvMove.reset ∈ s.env
    | .fault _ => False
    | .refused r => r = .contractBroken ∧ ∃ m ∈ s.env, m.keepsContract = false := by
  have hw := waitForBytes_spec n (send frame { s with step := some st })
  unfold exchange
  cases h : waitForBytes n (send frame { s with step := some st }) with
  | avail v =>
    simp only [h] at hw
    simp only [readBytes_ready n v hw.1]
    by_cases ha : acknowledged v.cfg.wire (v.rxq.take n) = true
    · have ha' : (v.rxq.take n).head? = some v.cfg.wire.ack := by simpa [acknowledged] using ha
      simp only [emit_cfg, ha, if_true]
      exact ⟨v, hw.2, hw.1, ha', rfl⟩
    · have ha' : (v.rxq.take n).head? ≠ some v.cfg.wire.ack := by simpa [acknowledged] using ha
      simp only [emit_cfg, ha]
      exact ⟨v, hw.2, Or.inr ⟨hw.1, ha', rfl⟩⟩
  | timeout v =>
    simp only [h] at hw
    exact ⟨v, hw.2, Or.inl ⟨hw.1, rfl⟩⟩
  | reset v =>
    simp only [h] at hw
    exact hw
  | broken =>
    simp only [h] at hw
    exact ⟨rfl, hw⟩

/-- An exchange whose whole response is in the queue and begins with `ACK` (R153). -/
theorem exchange_answered (frame : List Byte) (n : Nat) (st : StepId) (s : State) (hn : 1 ≤ n)
    (h : answered n s) : exchange frame n st s = .ok (exchanged frame n st s) := by
  have hl : n ≤ (send frame { s with step := some st }).rxq.length := by simpa using h.1
  have hh : (s.rxq.take n).head? = some s.cfg.wire.ack := by
    rw [List.head?_take, if_neg (by omega)]
    exact h.2
  unfold exchange
  simp only [waitForBytes_ready n _ hl, readBytes_ready n _ hl, acknowledged, emit_cfg, send_cfg, send_rxq, hh]
  rfl

/-! ### Command steps -/

/-- The frame the engine sends for a step (R100); `none` only for a page buffer no data block can hold. -/
def stepFrameBytes (st : StepId) (s : State) : Option (List Byte) := encode s.cfg.wire (issue st s)

end Sys2Proof.Machine
end

