-- ==== Sys2Proof/Laws/PerInstr.lean ====
section
/-! SUPPORT. Statements for all instructions, one lemma per constructor: the length of an instruction's
frame (30_encoding.md R91 to R95, R102). -/

namespace Sys2Proof.Laws.EncodeLength

/-- The bytes of an instruction's frame: 1, 2, 3, 5 or 258, and none for an operation without an encoding
(R90, R102). -/
def frameLength : Instr → Option Nat
  | .sync => some 1
  | .get => some 2
  | .getVersion => some 2
  | .getId => some 2
  | .eraseCmd => some 2
  | .eraseParam => some 2
  | .extEraseCmd => some 2
  | .extEraseParam => some 3
  | .writeSetup => some 2
  | .writeAddress _ => some 5
  | .writePayload _ => some 258
  | .readSetup => some 2
  | .readAddress _ => some 5
  | .readLength => some 2
  | .buildCommand _ => none
  | .buildAddressFrame _ => none
  | .buildDataBlockFrame _ => none
  | .incrementAddress _ => none
  | .send _ => none
  | .waitForBytes _ _ => none
  | .readBytes _ => none
  | .exchange _ _ _ => none
  | .enter => none
  | .openSession => none
  | .closeSession => none
  | .writePage => none
  | .readPage => none
  | .writeImage => none
  | .verifyImage => none
  | .flashAndVerify => none

/-- A well-formed instruction's frame has the length of its format, whatever the `WIRE` record. -/
def Statement (i : Instr) : Prop :=
  ∀ w : Wire, i.wf = true → (encode w i).map List.length = frameLength i

theorem sync : Statement .sync := fun _ _ => rfl

theorem get : Statement .get := fun _ _ => rfl

theorem getVersion : Statement .getVersion := fun _ _ => rfl

theorem getId : Statement .getId := fun _ _ => rfl

theorem eraseCmd : Statement .eraseCmd := fun _ _ => rfl

theorem eraseParam : Statement .eraseParam := fun _ _ => rfl

theorem extEraseCmd : Statement .extEraseCmd := fun _ _ => rfl

theorem extEraseParam : Statement .extEraseParam := fun _ _ => rfl

theorem writeSetup : Statement .writeSetup := fun _ _ => rfl

theorem writeAddress (address : FlashAddress) : Statement (.writeAddress address) := fun _ _ => rfl

theorem writePayload (payload : List Byte) : Statement (.writePayload payload) := by
  intro w h
  have hl : payload.length = 256 := by simpa [Instr.wf] using h
  simp [encode, Machine.buildDataBlockFrame, frameLength, hl, pageSize]

theorem readSetup : Statement .readSetup := fun _ _ => rfl

theorem readAddress (address : FlashAddress) : Statement (.readAddress address) := fun _ _ => rfl

theorem readLength : Statement .readLength := fun _ _ => rfl

theorem buildCommand (opcode : Byte) : Statement (.buildCommand opcode) := fun _ _ => rfl

theorem buildAddressFrame (address : FlashAddress) : Statement (.buildAddressFrame address) := fun _ _ => rfl

theorem buildDataBlockFrame (payload : List Byte) : Statement (.buildDataBlockFrame payload) := fun _ _ => rfl

theorem incrementAddress (address : FlashAddress) : Statement (.incrementAddress address) := fun _ _ => rfl

theorem send (bytes : List Byte) : Statement (.send bytes) := fun _ _ => rfl

theorem waitForBytes (n : Nat) (timeout : Duration) : Statement (.waitForBytes n timeout) := fun _ _ => rfl

theorem readBytes (n : Nat) : Statement (.readBytes n) := fun _ _ => rfl

theorem exchange (frame : List Byte) (n : Nat) (st : StepId) : Statement (.exchange frame n st) := fun _ _ => rfl

theorem enter : Statement .enter := fun _ _ => rfl

theorem openSession : Statement .openSession := fun _ _ => rfl

theorem closeSession : Statement .closeSession := fun _ _ => rfl

theorem writePage : Statement .writePage := fun _ _ => rfl

theorem readPage : Statement .readPage := fun _ _ => rfl

theorem writeImage : Statement .writeImage := fun _ _ => rfl

theorem verifyImage : Statement .verifyImage := fun _ _ => rfl

theorem flashAndVerify : Statement .flashAndVerify := fun _ _ => rfl

end Sys2Proof.Laws.EncodeLength
end

