-- ==== Sys2Proof/Laws/Sequence.lean ====
section
/-! SUPPORT. The command steps, the line actions, the byte source and the page loop's actions: one lemma
each that says what they can do. -/

namespace Sys2Proof.Machine

/-! ### Command steps -/

/-- A step in its session state is its exchange (R28, R230). -/
theorem commandStep_inSession (frame : List Byte) (st : StepId) (s : State) (h : s.sess = stepSession st) :
    commandStep frame st s = exchange frame (ackLen st) st s := if_pos h

/-- A step in any other session state is refused (R230). -/
theorem commandStep_outside (frame : List Byte) (st : StepId) (s : State) (h : s.sess ≠ stepSession st) :
    commandStep frame st s = .refused .stepOutsideSession := if_neg h

/-- A data block step whose payload fits is a command step (R212). -/
theorem payloadStep_fits (payload frame : List Byte) (st : StepId) (s : State)
    (h : buildDataBlockFrame payload = some frame) : payloadStep payload st s = commandStep frame st s := by
  simp [payloadStep, h]

/-- The frame of a full page (R95, R212). -/
theorem buildDataBlockFrame_page (payload : List Byte) (h : payload.length = 256) :
    buildDataBlockFrame payload = some (0xFF :: payload ++ [xorAll (0xFF :: payload)]) := by
  simp [buildDataBlockFrame, pageSize, h]

/-- A step's response has 1 to 257 bytes (R5). -/
theorem ackLen_bounds (st : StepId) : 1 ≤ ackLen st ∧ ackLen st ≤ 257 := by cases st <;> decide

/-- The sequence goes on after a step that left control where it was. -/
theorem retireStep_here (st : StepId) (s : State) (h : s.ctl = .command st) : retireStep st s = afterStep st s :=
  if_pos h

/-- A step that moved control, by a failure or a reset, is not followed by the next one (R284, R321). -/
theorem retireStep_moved (st : StepId) (s : State) (h : s.ctl ≠ .command st) : retireStep st s = s := if_neg h

/-! ### Moves of the other agents as steps -/

/-- A raise of `START` at rest is accepted in the step that raises it (R258, R289). -/
theorem otherAction_accepted (s : State) (hs : s.start = false) (hb : s.busy = false) (hc : s.ctl = .rest) :
    otherAction (.start true) s = .next { accept (driveStart true s) with ctl := .entering 0 } := by
  simp [otherAction, startAccepted, otherMove, Moved.outcome, mapNext, hs, hb, hc]

/-- Every other step of another agent is its move and no more. -/
theorem otherAction_other (m : EnvMove) (s : State) (h : startAccepted m s = false) :
    otherAction m s = (otherMove m s).outcome := by
  simp [otherAction, h]

/-- An accepted move is a raise of `START`, with the engine at rest. -/
theorem startAccepted_spec (m : EnvMove) (s : State) (h : startAccepted m s = true) :
    m = .start true ∧ s.start = false ∧ s.busy = false ∧ s.ctl = .rest := by
  cases m <;> simp_all [startAccepted]

/-! ### Lines -/

/-- Everything a line action can do: it moves only the lines, `OWN`, the sequencer registers and the trace,
or stops because the lines are not owned (R170, R172, R182). -/
theorem lineAction_spec (a : LineAction) (s : State) :
    match lineAction a s with
    | .ok t => t = { s with
        own := t.own, rstLine := t.rstLine, modeLine := t.modeLine, sess := t.sess, pass := t.pass,
        step := t.step, trace := t.trace }
    | .fault f => f = .noTransition ∧ s.own = false
    | _ => False := by
  cases a with
  | take => rfl
  | gpio line level =>
    unfold lineAction
    by_cases h : s.own = true
    · simp only [h, if_true]
      cases line <;> simp [gpio, emit, h]
    · simp only [h, if_false, Bool.false_eq_true]
      exact ⟨trivial, trivial⟩
  | delay t =>
    unfold lineAction
    by_cases h : s.own = true
    · simp only [h, if_true]
      simp [emit, h]
    · simp only [h, if_false, Bool.false_eq_true]
      exact ⟨trivial, trivial⟩
  | opened => rfl
  | closing => rfl
  | release => rfl

/-! ### Byte source and pages -/

/-- The chunk of a `SrcRead`: 256 bytes or all that remain (R62). -/
theorem nextChunk_length (src : Source) : (nextChunk src).length = min 256 (src.bytes.length - src.pos) := by
  simp [nextChunk, pageSize, List.length_take, List.length_drop]

/-- A `SrcRead` returns no bytes exactly when the image is exhausted (R62). -/
theorem nextChunk_eq_nil (src : Source) : nextChunk src = [] ↔ src.bytes.length ≤ src.pos := by
  rw [← List.length_eq_zero_iff, nextChunk_length]
  omega

/-- The read position stays inside the image (R42). -/
theorem srcRead_pos_le (s : State) (h : s.src.pos ≤ s.src.bytes.length) :
    (srcRead s).src.pos ≤ (srcRead s).src.bytes.length := by
  have := nextChunk_length s.src
  simp only [srcRead, emit]
  omega

/-- `PBUF` keeps its 256 registers: every one is written (R22, R243). -/
theorem loadPage_length (chunk : List Byte) (s : State) (h : chunk.length ≤ 256) :
    (loadPage chunk s).pbuf.length = 256 := by
  simp [loadPage, zeros, pageSize]
  omega

/-- Everything the start of a page can do (R240, R247, R256): the image is exhausted; or it is not and
`ABORT` is high; or it is not, `ABORT` is low, and the page is begun. -/
theorem startPage_spec (verify : Bool) (s : State) :
    match startPage verify s with
    | .exhausted t => nextChunk s.src = [] ∧ t = srcRead s
    | .aborted t => nextChunk s.src ≠ [] ∧ s.abort = true ∧ t = raiseAbort (srcRead s)
    | .page t => nextChunk s.src ≠ [] ∧ s.abort = false ∧
        t = if verify then { srcRead s with vAtt := s.vAtt + 1 }
          else { loadPage (nextChunk s.src) (srcRead s) with wAtt := s.wAtt + 1 } := by
  unfold startPage
  by_cases hc : nextChunk s.src = []
  · simp only [hc, if_true]
    exact ⟨trivial, trivial⟩
  · simp only [hc, if_false, srcRead_abort]
    by_cases ha : s.abort = true
    · simp only [ha, if_true]
      exact ⟨hc, trivial, trivial⟩
    · simp only [ha, if_false, Bool.false_eq_true]
      cases verify <;> simp [loadPage, hc]

end Sys2Proof.Machine
end

