-- ==== Sys2Proof/Tests/Slice0.lean ====
section
/-! SUPPORT. Tests. Expected values come from 95_test_vectors.md (S, C, T, M, K, H, P rows) and from the
tables of 30_encoding.md, not from the model; each test names its source. The second part shows, for every
statement that has hypotheses, a concrete state and operands that meet them. -/

namespace Sys2Proof.Tests

open Sys2Proof Sys2Proof.Machine

set_option Elab.async false

/-! ### Helpers -/

/-- The outcome is a next state that satisfies `f`. -/
def onNext (o : Host.Outcome State Fault Refusal) (f : State → Bool) : Bool :=
  match o with
  | .next t => f t
  | .fault _ => false
  | .refused _ => false

theorem onNext_exists (o : Host.Outcome State Fault Refusal) (f : State → Bool) (h : onNext o f = true) :
    ∃ t, o = .next t ∧ f t = true := by
  cases o with
  | next t => exact ⟨t, rfl, h⟩
  | fault e => cases h
  | refused r => cases h

/-- The outcome is that refusal. -/
def isRefused (o : Host.Outcome State Fault Refusal) (r : Refusal) : Bool :=
  match o with
  | .next _ => false
  | .fault _ => false
  | .refused q => decide (q = r)

/-- The engine in an open session where the step `st` is due, with `queue` received. -/
def atStep (st : StepId) (queue : List Byte) : State :=
  { State.reset with
    sess := stepSession st, pass := stepPass st, ctl := .command st, rxq := queue, busy := true, own := true,
    modeLine := true }

/-- `n` acknowledgment bytes of the default record. -/
def acks (n : Nat) : List Byte := List.replicate n 0x79

/-- Payload of vector C29. -/
def payloadC29 : List Byte := [0x11, 0x22, 0x33, 0x44] ++ zeros 252

/-- The engine idle with an image attached and `queue` received. -/
def idleWith (image queue : List Byte) : State :=
  { State.reset with src := ⟨image, 0⟩, rxq := queue }

/-! ### WellFormed: an ill-formed term for each check -/

theorem test_wf_short_payload : (Instr.writePayload (zeros 255)).wf = false := by decide +kernel

theorem test_wf_long_payload : (Instr.writePayload (zeros 257)).wf = false := by decide +kernel

theorem test_wf_full_payload : (Instr.writePayload (zeros 256)).wf = true := by decide +kernel

theorem test_wf_empty_send : (Instr.send []).wf = false := by decide

theorem test_wf_wait_for_nothing : (Instr.waitForBytes 0 .serial).wf = false := by decide

theorem test_wf_wait_for_too_many : (Instr.waitForBytes 258 .serial).wf = false := by decide

theorem test_wf_wait_with_another_time : (Instr.waitForBytes 1 .settle).wf = false := by decide

theorem test_wf_read_nothing : (Instr.readBytes 0).wf = false := by decide

theorem test_wf_read_too_many : (Instr.readBytes 258).wf = false := by decide

theorem test_wf_exchange_of_no_frame : (Instr.exchange [] 1 .sync).wf = false := by decide

theorem test_wf_exchange_for_nothing : (Instr.exchange [0x7F] 0 .sync).wf = false := by decide

theorem test_wf_wire_ack_is_nack : ({ Wire.standard with nack := 0x79 } : Wire).wf = false := by decide

theorem test_wf_default_wire : Wire.standard.wf = true := by decide

/-! ### Decode: every frame of the table of R100, its bytes written out -/

theorem test_decode_sync : decodeTableWord 8 0x7F = some .sync := by decide

theorem test_decode_get : decodeTableWord 16 0x00FF = some .get := by decide

theorem test_decode_getVersion : decodeTableWord 16 0x01FE = some .getVersion := by decide

theorem test_decode_getId : decodeTableWord 16 0x02FD = some .getId := by decide

theorem test_decode_eraseCmd : decodeTableWord 16 0x43BC = some .eraseCmd := by decide

theorem test_decode_eraseParam : decodeTableWord 16 0xFF00 = some .eraseParam := by decide

theorem test_decode_extEraseCmd : decodeTableWord 16 0x44BB = some .extEraseCmd := by decide

theorem test_decode_extEraseParam : decodeTableWord 24 0xFFFF00 = some .extEraseParam := by decide

theorem test_decode_writeSetup : decodeTableWord 16 0x31CE = some .writeSetup := by decide

/-- Vector C19. -/
theorem test_decode_writeAddress :
    decodeTableWord 40 0x1234567808 = some (.writeAddress ⟨0x12, 0x34, 0x56, 0x78⟩) := by decide

/-- Vector C29: `FF 11 22 33 44 00 .. 00 BB`. -/
theorem test_decode_writePayload :
    readStep Wire.standard .writePayload ([0xFF, 0x11, 0x22, 0x33, 0x44] ++ zeros 252 ++ [0xBB]) =
      some (.writePayload payloadC29) := by decide +kernel

theorem test_decode_readSetup : decodeTableWord 16 0x11EE = some .readSetup := by decide

/-- Vector C13, read as the step of the verify pass (R102). -/
theorem test_decode_readAddress :
    readStep Wire.standard .readAddress [0x08, 0x00, 0x01, 0x00, 0x09] =
      some (.readAddress ⟨0x08, 0x00, 0x01, 0x00⟩) := by decide

/-- R102 (a): the bytes `FF 00` are `ReadLength` where that step is expected. -/
theorem test_decode_readLength : readStep Wire.standard .readLength [0xFF, 0x00] = some .readLength := by decide

/-- A wrong address checksum is rejected by name. -/
theorem test_decode_bad_address :
    rejection [0x08, 0x00, 0x01, 0x00, 0x08] = .badAddressFrame ∧ decodeTableWord 40 0x0800010008 = none := by
  decide

/-- `7F 80` (vector C9) is a format C frame of no step; `43 BD` is no format C frame. -/
theorem test_decode_no_command :
    rejection [0x7F, 0x80] = .unknownOpcode 0x7F ∧ rejection [0x43, 0xBD] = .badComplement 0x43 0xBD := by decide

/-- A data block of one byte (vector C20) is no request of any step (R65, R231). -/
theorem test_decode_short_block :
    rejection [0x00, 0xAA, 0xAA] = .unknownParameter ∧ decodeTableWord 24 0x00AAAA = none := by decide

/-! ### Reset and the host's registers -/

/-- `STATUS` and `SEQSTATE` after reset: `RST_LINE` alone; `STEP = NoStep` (R37, R50). -/
theorem test_reset_registers :
    hostRead State.reset 0 = some 0x10 ∧ hostRead State.reset 1 = some 0x1E0 ∧
      hostRead State.reset 3 = some 0x1E0 ∧ hostRead State.reset 10 = none := by decide

/-- `FAILINFO = 0x132` for (ProtocolNack, Write, WriteAddress), from program P12. -/
theorem test_failInfo :
    hostRead { State.reset with
      failReason := .protocolNack, failPass := .write, failStep := some .writeAddress } 3 = some 0x132 := by
  decide

/-! ### One step each -/

/-- Vector T6: a rejected `Sync`. -/
theorem test_sync_rejected :
    onNext (exec .sync (atStep .sync [0x1F])) (fun t =>
      t.tx == [0x7F] && t.rxq == [] && t.rxbuf.head? == some 0x1F && t.failReason == .protocolNack
        && t.failStep == some .sync && t.sess == .faulted) = true := by decide +kernel

/-- Vector M3: an acknowledged `Sync`, with the session transition the sequence adds. -/
theorem test_sync_acknowledged :
    onNext (step (atStep .sync [0x79])) (fun t =>
      t.tx == [0x7F] && t.rxq == [] && t.sess == .synced && t.ctl == .command .get) = true := by decide +kernel

/-- Vector K1. -/
theorem test_get :
    onNext (exec .get (atStep .get [0x79, 0x0B, 0x31, 0x00, 0x01, 0x02, 0x11, 0x21, 0x31, 0x43, 0x63, 0x73, 0x82,
      0x92, 0x79])) (fun t =>
        t.tx == [0x00, 0xFF] && t.rxq == [] && t.rxLen == 15 && t.rxbuf[2]? == some 0x31) = true := by
  decide +kernel

/-- Vector K1, last column: a lone rejection is a timeout (R331). -/
theorem test_get_lone_nack :
    onNext (exec .get (atStep .get [0x1F])) (fun t =>
      t.rxq == [0x1F] && t.failReason == .timeout && t.failStep == some .get && t.rxLen == 0) = true := by
  decide +kernel

/-- Vector K2. -/
theorem test_getVersion :
    onNext (exec .getVersion (atStep .getVersion [0x79, 0x31, 0x00, 0x00, 0x79])) (fun t =>
      t.tx == [0x01, 0xFE] && t.rxLen == 5 && t.failReason == .none) = true := by decide +kernel

/-- Vector M6. -/
theorem test_getId_rejected :
    onNext (exec .getId (atStep .getId [0x1F, 0x00, 0x00, 0x00, 0x00])) (fun t =>
      t.tx == [0x02, 0xFD] && t.rxq == [] && t.failReason == .protocolNack && t.failStep == some .getId) = true := by
  decide +kernel

/-- Vector K4. -/
theorem test_eraseCmd :
    onNext (exec .eraseCmd (atStep .eraseCmd [0x79])) (fun t =>
      t.tx == [0x43, 0xBC] && t.step == some .eraseCmd && t.failReason == .none) = true := by decide +kernel

/-- Vector K5. -/
theorem test_eraseParam :
    onNext (exec .eraseParam (atStep .eraseParam [0x79])) (fun t =>
      t.tx == [0xFF, 0x00] && t.step == some .eraseParam && t.failReason == .none) = true := by decide +kernel

/-- Vector K6, last column, and program P7. -/
theorem test_extEraseCmd_rejected :
    onNext (exec .extEraseCmd (atStep .extEraseCmd [0x1F])) (fun t =>
      t.tx == [0x44, 0xBB] && t.failReason == .protocolNack && t.failStep == some .extEraseCmd
        && t.sess == .faulted) = true := by decide +kernel

/-- Vector K7; the last setup step makes the session `Ready` (R175). -/
theorem test_extEraseParam :
    onNext (step (atStep .extEraseParam [0x79])) (fun t =>
      t.tx == [0xFF, 0xFF, 0x00] && t.sess == .ready && t.ctl == .startPass false) = true := by decide +kernel

/-- Vector K8. -/
theorem test_writeSetup :
    onNext (exec .writeSetup (atStep .writeSetup [0x79])) (fun t =>
      t.tx == [0x31, 0xCE] && t.sess == .transferring && t.failReason == .none) = true := by decide +kernel

/-- Vector K8 with another `WIRE` record: `A1 5E`, acknowledged by `06`. -/
theorem test_writeSetup_other_wire :
    onNext (exec .writeSetup { atStep .writeSetup [0x06] with
      cfg := { Params.standard with wire := { Wire.standard with ack := 0x06, opcWrite := 0xA1 } } }) (fun t =>
        t.tx == [0xA1, 0x5E] && t.failReason == .none) = true := by decide +kernel

/-- Program P12: a garbage byte is a rejection; a page step does not go through `Faulted`. -/
theorem test_writeAddress_garbage :
    onNext (exec (.writeAddress ⟨0x08, 0x00, 0x00, 0x00⟩) (atStep .writeAddress [0x00])) (fun t =>
      t.tx == [0x08, 0x00, 0x00, 0x00, 0x08] && t.failReason == .protocolNack && t.failPass == .write
        && t.sess == .transferring) = true := by decide +kernel

/-- Vector K10. -/
theorem test_writePayload :
    onNext (exec (.writePayload payloadC29) (atStep .writePayload [0x79])) (fun t =>
      t.tx == [0xFF, 0x11, 0x22, 0x33, 0x44] ++ zeros 252 ++ [0xBB] && t.failReason == .none) = true := by
  decide +kernel

/-- Vector K11. -/
theorem test_readSetup :
    onNext (exec .readSetup (atStep .readSetup [0x79])) (fun t =>
      t.tx == [0x11, 0xEE] && t.step == some .readSetup && t.failReason == .none) = true := by decide +kernel

/-- Vector K12. -/
theorem test_readAddress :
    onNext (exec (.readAddress ⟨0x08, 0x00, 0x01, 0x00⟩) (atStep .readAddress [0x79])) (fun t =>
      t.tx == [0x08, 0x00, 0x01, 0x00, 0x09] && t.failReason == .none) = true := by decide +kernel

/-- Vector T8: 257 bytes of which the first is `1F`. -/
theorem test_readLength_rejected :
    onNext (exec .readLength (atStep .readLength (0x1F :: zeros 256))) (fun t =>
      t.tx == [0xFF, 0x00] && t.rxq == [] && t.rxLen == 257 && t.failReason == .protocolNack
        && t.failStep == some .readLength) = true := by decide +kernel

/-- Program P9: a short page times out and stays queued. -/
theorem test_readLength_short :
    onNext (exec .readLength (atStep .readLength (acks 200))) (fun t =>
      t.rxq.length == 200 && t.failReason == .timeout && t.rxLen == 0) = true := by decide +kernel

/-- Vectors S2 and C8. -/
theorem test_buildCommand :
    buildCommand 0x43 = [0x43, 0xBC] ∧ buildCommand 0xFF = [0xFF, 0x00] := by decide

/-- Vectors S1 and C18. -/
theorem test_buildAddressFrame :
    buildAddressFrame (be32 0x08000000) = [0x08, 0x00, 0x00, 0x00, 0x08] ∧
      buildAddressFrame (be32 0xFFFFFFFF) = [0xFF, 0xFF, 0xFF, 0xFF, 0x00] := by decide

/-- Vectors C23, C24 and C32. -/
theorem test_buildDataBlockFrame :
    buildDataBlockFrame [0x5A, 0x5A] = some [0x01, 0x5A, 0x5A, 0x01] ∧
      buildDataBlockFrame [0x01, 0x02, 0x03] = some [0x02, 0x01, 0x02, 0x03, 0x02] ∧
      buildDataBlockFrame [] = none := by decide

/-- Vectors C27 and C33. -/
theorem test_buildDataBlockFrame_edges :
    buildDataBlockFrame (List.replicate 256 0xFF) = some (List.replicate 258 0xFF) ∧
      buildDataBlockFrame (zeros 257) = none := by decide +kernel

/-- Vectors C42, C43, C47. -/
theorem test_incrementAddress :
    incrementAddress ⟨0x08, 0x00, 0xFF, 0x00⟩ = ⟨0x08, 0x01, 0x00, 0x00⟩ ∧
      incrementAddress ⟨0x08, 0xFF, 0xFF, 0x00⟩ = ⟨0x09, 0x00, 0x00, 0x00⟩ ∧
      incrementAddress ⟨0xFF, 0xFF, 0xFF, 0xFF⟩ = ⟨0x00, 0x00, 0x00, 0xFF⟩ := by decide

/-- Vector T5. -/
theorem test_send :
    onNext (exec (.send [0x43, 0xBC]) { State.reset with rxq := [0x79] }) (fun t =>
      t.tx == [0x43, 0xBC] && t.rxq == [0x79] && t.unitOut == .byteCount 2) = true := by decide +kernel

/-- Vector T2, first half. -/
theorem test_wait_avail :
    onNext (exec (.waitForBytes 1 .serial) { State.reset with rxq := [0x79, 0x10, 0x20] }) (fun t =>
      t.unitOut == .avail 3 && t.rxq == [0x79, 0x10, 0x20]) = true := by decide +kernel

/-- Vector T4. -/
theorem test_wait_timeout :
    onNext (exec (.waitForBytes 15 .serial) { State.reset with rxq := [0x79], env := [.timer] }) (fun t =>
      t.unitOut == .timeout && t.rxq == [0x79]) = true := by decide +kernel

/-- Vector T2, second half, and the example of R152. -/
theorem test_readBytes :
    onNext (exec (.readBytes 1) { State.reset with rxq := [0x79, 0x1F, 0x00] }) (fun t =>
      t.unitOut == .bytes [0x79] && t.rxq == [0x1F, 0x00] && t.rxbuf.head? == some 0x79 && t.rxLen == 1) = true := by
  decide +kernel

/-- Entry U1: no value is returned. -/
theorem test_readBytes_underflow :
    isRefused (exec (.readBytes 2) { State.reset with rxq := [0x79] }) .readBytesUnderflow = true := by
  decide +kernel

/-- Vector T9: the target answers after the request. -/
theorem test_exchange :
    onNext (exec (.exchange [0x31, 0xCE] 1 .writeSetup) { State.reset with env := [.target [0x79]] }) (fun t =>
      t.tx == [0x31, 0xCE] && t.step == some .writeSetup && t.failReason == .none && t.env == []) = true := by
  decide +kernel

/-- Vector T7. -/
theorem test_exchange_garbage :
    onNext (exec (.exchange [0x7F] 1 .sync) { State.reset with rxq := [0x00] }) (fun t =>
      t.failReason == .protocolNack && t.failStep == some .sync && t.rxbuf.head? == some 0x00) = true := by
  decide +kernel

/-- Vector M1. -/
theorem test_enter :
    onNext (exec .enter State.reset) (fun t =>
      t.trace == [.gpio .mode true, .gpio .rst false, .delay .settle, .gpio .rst true] && t.own && t.modeLine
        && t.rstLine && t.sess == .modeAsserted && t.pass == .setup) = true := by decide +kernel

/-- Program P8 (a): a stale byte is taken as the sync acknowledgment, then `Get` times out. -/
theorem test_openSession_stale_byte :
    onNext (exec .openSession { State.reset with rxq := [0x79] }) (fun t =>
      t.tx == [0x7F, 0x00, 0xFF] && t.failReason == .timeout && t.failPass == .setup && t.failStep == some .get
        && t.sess == .faulted) = true := by decide +kernel

/-- Vector M2. -/
theorem test_closeSession :
    onNext (exec .closeSession (atStep .writeSetup [])) (fun t =>
      t.trace == [.gpio .rst false, .gpio .mode false, .gpio .rst false, .delay .settle, .gpio .rst true]
        && !t.own && !t.modeLine && t.rstLine && t.sess == .idle && t.pass == .none && t.step == none) = true := by
  decide +kernel

/-- R216: 265 bytes sent, 3 consumed. -/
theorem test_writePage :
    onNext (exec .writePage (atStep .writeSetup (acks 4))) (fun t =>
      t.tx.length == 265 && t.rxq.length == 1 && t.failReason == .none) = true := by decide +kernel

/-- R226: 9 bytes sent, 259 consumed, the page in `RXBUF[1..256]`. -/
theorem test_readPage :
    onNext (exec .readPage (atStep .readSetup (acks 3 ++ List.replicate 256 0xA5))) (fun t =>
      t.tx.length == 9 && t.rxq == [] && (t.rxbuf.drop 1) == List.replicate 256 0xA5) = true := by decide +kernel

/-- R240: one short page, padded with zeros (the shape of program P5). -/
theorem test_writeImage :
    onNext (exec .writeImage { atStep .extEraseParam (acks 3) with sess := .ready, src := ⟨[0x11, 0x22], 0⟩ })
      (fun t => t.tx.length == 265 && t.pbuf == [0x11, 0x22] ++ zeros 254 && t.chunkLen == 2 && t.wOk == 1
        && t.addr == be32 0x08000100) = true := by decide +kernel

/-- The model's choice of log 26: an image attached in a wait of a pass run alone is read to its end, and the
pass still ends in an empty `SrcRead` (R242). -/
theorem test_verifyImage_attached_meanwhile :
    onNext (exec .verifyImage { atStep .readSetup [] with
      busy := false, src := ⟨[0x11], 0⟩
      env := [.attach (zeros 600) 0, .target (acks (4 * 259))] })
      (fun t => t.vOk == 4 && t.trace.getLast? == some (.srcRead []) && t.src.pos == 600) = true := by
  decide +kernel

/-- The model's choice of log 8: a raise of `START` in the wait of a single `Exchange` changes the level only. -/
theorem test_exchange_start_meanwhile :
    onNext (exec (.exchange [0x7F] 1 .sync) { State.reset with env := [.start true, .target [0x79]] }) (fun t =>
      t.start && !t.busy && !t.contractViol && t.failReason == .none) = true := by decide +kernel

/-- R256: an abort before the first page. -/
theorem test_writeImage_abort :
    onNext (exec .writeImage { atStep .extEraseParam (acks 3) with
      sess := .ready, abort := true, src := ⟨[0x11, 0x22], 0⟩ })
      (fun t => t.tx == [] && t.failReason == .aborted && t.failStep == none && t.wAtt == 0) = true := by
  decide +kernel

/-- R247, R251: one page read and presented; nothing is compared. -/
theorem test_verifyImage :
    onNext (exec .verifyImage { atStep .readSetup (acks 3 ++ List.replicate 256 0xA5) with src := ⟨[0x11], 0⟩ })
      (fun t => pageOuts t.trace == [(0, 0x08000000, List.replicate 256 0xA5)] && t.vOk == 1
        && t.failReason == .none) = true := by decide +kernel

/-- Program P11 (a): an empty image, `ABORT` high throughout. -/
theorem test_flashAndVerify_empty :
    onNext (exec .flashAndVerify { idleWith [] (acks 30) with abort := true }) (fun t =>
      t.resOk && t.tx.length == 16 && t.wAtt == 0 && t.addr == be32 0x08000000 && !t.busy) = true := by
  decide +kernel

/-- Program P13, the second request. -/
theorem test_flashAndVerify_busy :
    onNext (exec .flashAndVerify (atStep .writeSetup [])) (fun t => t.contractViol && t.tx == [] && t.busy) = true := by
  decide +kernel

/-- U6: `Erasing`, if forced, is left for `Closing` only. -/
theorem test_forced_erasing :
    onNext (step { atStep .writeSetup [] with sess := .erasing }) (fun t => t.sess == .closing && t.tx == []) = true := by
  decide +kernel

/-- A raise of `START` at rest is accepted (R258); a level that is already high raises nothing (R36). -/
theorem test_start_accepted :
    onNext (step { idleWith [] [] with env := [.start true] }) (fun t =>
        t.busy && t.start && t.ctl == .entering 0) = true ∧
      onNext (step { idleWith [] [] with start := true, env := [.start true] }) (fun t =>
        !t.busy && t.start && t.ctl == .rest) = true := by decide +kernel

/-- R46: with `BUSY = 1` and `OWN = 0` another owner may neither drive the lines nor drain the queue. -/
theorem test_link_taken_before_enter :
    isRefused (step { idleWith [] [0x79] with busy := true, ctl := .entering 0, env := [.driveLines] })
        .contractBroken = true ∧
      isRefused (step { idleWith [] [0x79] with busy := true, ctl := .entering 0, env := [.takeLink 1] })
        .contractBroken = true := by decide +kernel

/-- Vector T6: the host reads the rejecting byte in `RXBUF[0]` (R23). -/
theorem test_host_reads_rxbuf :
    onNext (exec .sync (atStep .sync [0x1F])) (fun t => hostRxbuf t 0 == some 0x1F && hostRxLen t == 1) = true ∧
      hostRxbuf State.reset 257 = none := by decide +kernel

/-- The model's choice of log 23: a short payload is sent as its short block (vector C24). -/
theorem test_writePayload_short :
    onNext (exec (.writePayload [0x01, 0x02, 0x03]) (atStep .writePayload [0x79])) (fun t =>
      t.tx == [0x02, 0x01, 0x02, 0x03, 0x02] && t.failReason == .none) = true := by decide +kernel

/-! ### Every statement with hypotheses: a state and operands that meet them -/

theorem noReset_of_quiet (s : State) (h : s.env = []) : noReset s := by simp [noReset, h]

theorem contractKept_of_quiet (s : State) (h : s.env = []) : contractKept s := by simp [contractKept, h]

theorem test_meets_StepRunsThePlacedInstruction :
    decodeTableWord 16 0x00FF = some .get ∧ Instr.get.stepId = some .get := by decide

theorem test_meets_StepRunsTheDueInstruction :
    otherTurn (atStep .get []) = none ∧ dueStep (engineTurn (atStep .get [])) = some .get ∧
      (engineTurn (atStep .get [])).pbuf.length = 256 := by decide +kernel

theorem test_meets_DecodeReadsWhatEncodeWrites :
    (Instr.writePayload (zeros 256)).wf = true ∧
      (Instr.writePayload (zeros 256)).stepId = some .writePayload := by decide +kernel

theorem test_meets_EncodeWritesWhatDecodeReads : decode Wire.standard [.get] [0x00, 0xFF] = .ok .get := rfl

theorem test_meets_OnlyTwoPairsOfFramesCoincide :
    Instr.readLength.wf = true ∧ Instr.readLength.stepId = some .readLength ∧
      encode Wire.standard .readLength = some [0xFF, 0x00] ∧
      (Instr.readAddress ⟨0x08, 0x00, 0x01, 0x00⟩).stepId = some .readAddress ∧
      encode Wire.standard (.readAddress ⟨0x08, 0x00, 0x01, 0x00⟩) = some [0x08, 0x00, 0x01, 0x00, 0x09] ∧
      Instr.sync.stepId = some .sync ∧ encode Wire.standard .sync = some [0x7F] := by decide

theorem test_meets_BuildDataBlockFrameAnswersTheFrame :
    (1 ≤ (zeros 1).length ∧ (zeros 1).length ≤ 256) ∧ (1 ≤ (zeros 256).length ∧ (zeros 256).length ≤ 256) ∧
      (zeros 0).length = 0 ∧ 256 < (zeros 257).length := by decide +kernel

theorem test_meets_BuiltFramesAreWellFormed : buildDataBlockFrame [0x01] = some [0x00, 0x01, 0x01] := by decide

theorem test_meets_WaitAnswersAtOnceWhenBytesAreQueued :
    257 ≤ ({ State.reset with rxq := acks 257 } : State).rxq.length := by decide +kernel

/-- Owned link, nothing queued, `later` to come. -/
def waiting (later : List EnvMove) : State := { State.reset with own := true, env := later }

theorem test_meets_WaitOutcomesHaveTheirConditions_avail :
    (∃ t, exec (.waitForBytes 1 .serial) (waiting [.target [0x79]]) = .next t ∧ (t.unitOut == .avail 1) = true) ∧
      noReset (waiting [.target [0x79]]) ∧ ((waiting [.target [0x79]]).own = true ∨ (waiting [.target [0x79]]).busy = true) :=
  ⟨onNext_exists _ _ (by decide +kernel), by simp [noReset, waiting], Or.inl rfl⟩

theorem test_meets_WaitOutcomesHaveTheirConditions_timeout :
    (∃ t, exec (.waitForBytes 257 .serial)
        { waiting [.target (acks 256), .timer] with own := false, busy := true } = .next t ∧
        (t.unitOut == .timeout) = true) ∧
      noReset { waiting [.target (acks 256), .timer] with own := false, busy := true } ∧
      (({ waiting [.target (acks 256), .timer] with own := false, busy := true } : State).own = true ∨
        ({ waiting [.target (acks 256), .timer] with own := false, busy := true } : State).busy = true) :=
  ⟨onNext_exists _ _ (by decide +kernel), by simp [noReset, waiting], Or.inr rfl⟩

theorem test_meets_ReadBytesTakesTheOldest :
    (257 ≤ ({ State.reset with rxq := acks 257 } : State).rxq.length ∧ State.reset.rxbuf.length = 257) ∧
      ({ State.reset with rxq := acks 256 } : State).rxq.length < 257 := by decide +kernel

theorem test_meets_ReadBytesTakesTheOldest_read :
    ∃ t, exec (.readBytes 257) { State.reset with rxq := acks 257 } = .next t ∧
      (hostRxLen t == 257 && hostRxbuf t 256 == some 0x79) = true :=
  onNext_exists _ _ (by decide +kernel)

theorem test_meets_ExchangeAcknowledgedGoesOn :
    answered 1 { State.reset with rxq := acks 1 } ∧ answered 257 { State.reset with rxq := acks 257 } := by
  unfold answered; decide +kernel

theorem test_meets_ExchangeTakesAnAnswerThatComesLater :
    (waiting [.target [0x79]]).env = .target [0x79] :: [] ∧ (waiting [.target [0x79]]).rxq.length < 1 ∧
      answered 1 { waiting [.target [0x79]] with rxq := (waiting [.target [0x79]]).rxq ++ [0x79] } := by
  unfold answered; decide +kernel

theorem test_meets_ExchangeTimesOut :
    (waiting [.timer]).env = .timer :: [] ∧ (waiting [.timer]).rxq.length < 1 ∧
      (waiting [.timer]).failReason = .none := by decide +kernel

theorem test_meets_ExchangeRejected :
    1 ≤ ({ State.reset with rxq := [0x1F] } : State).rxq.length ∧
      ({ State.reset with rxq := [0x1F] } : State).rxq.head? ≠ some State.reset.cfg.wire.ack ∧
      ({ State.reset with rxq := [0x1F] } : State).failReason = .none := by decide +kernel

theorem test_meets_ExchangeSendsItsFrameOnce :
    (∃ t, exec (.exchange [0x7F] 1 .sync) (waiting [.target [0x79]]) = .next t ∧ (t.tx == [0x7F]) = true) ∧
      noReset (waiting [.target [0x79]]) ∧ (waiting [.target [0x79]]).rxbuf.length = 257 :=
  ⟨onNext_exists _ _ (by decide +kernel), by simp [noReset, waiting], by decide +kernel⟩

theorem test_meets_SyncAcknowledged :
    (atStep .sync (acks 1)).sess = .modeAsserted ∧ answered 1 (atStep .sync (acks 1)) := by
  unfold answered; decide +kernel

theorem test_meets_SetupStepsAcknowledged :
    (∀ k, (atStep .get (acks k)).sess = .synced) ∧ answered 15 (atStep .get (acks 15)) ∧
      answered 5 (atStep .getId (acks 5)) ∧ answered 1 (atStep .eraseCmd (acks 1)) := by
  refine ⟨fun _ => rfl, ?_⟩
  unfold answered; decide +kernel

theorem test_meets_WriteStepsAcknowledged :
    (atStep .writeSetup (acks 1)).sess = .transferring ∧ answered 1 (atStep .writeSetup (acks 1)) ∧
      (zeros 256).length = 256 := by
  unfold answered; decide +kernel

theorem test_meets_ReadStepsAcknowledged :
    (atStep .readLength (acks 257)).sess = .transferring ∧ answered 1 (atStep .readSetup (acks 1)) ∧
      answered 257 (atStep .readLength (acks 257)) := by
  unfold answered; decide +kernel

/-- The last byte of a page is missing and the timer is next. -/
def shortPage : State := { atStep .readLength (acks 256) with env := [.timer] }

theorem test_meets_AnyStepThatTimesOutIsRecorded :
    shortPage.sess = stepSession .readLength ∧ shortPage.pass = stepPass .readLength ∧
      shortPage.failReason = .none ∧ shortPage.pbuf.length = 256 ∧ shortPage.env = .timer :: [] ∧
      shortPage.rxq.length < ackLen .readLength := by decide +kernel

/-- A full response that begins with `1F`. -/
def rejectedPage : State := atStep .readLength (0x1F :: zeros 256)

theorem test_meets_AnyStepThatIsRejectedIsRecorded :
    rejectedPage.sess = stepSession .readLength ∧ rejectedPage.pass = stepPass .readLength ∧
      rejectedPage.failReason = .none ∧ rejectedPage.pbuf.length = 256 ∧
      ackLen .readLength ≤ rejectedPage.rxq.length ∧
      rejectedPage.rxq.head? ≠ some rejectedPage.cfg.wire.ack := by decide +kernel

theorem test_meets_CommandStepsKeepAllOtherState :
    (∃ t, exec (issue .get (atStep .get [0x1F])) (atStep .get [0x1F]) = .next t ∧
        (t.failReason == .timeout) = true) ∧
      noReset (atStep .get [0x1F]) ∧ (atStep .get [0x1F]).rxbuf.length = 257 :=
  ⟨onNext_exists _ _ (by decide +kernel), noReset_of_quiet _ rfl, by decide +kernel⟩

theorem test_meets_CommandStepsOutOfPlaceAreRefused : State.reset.sess ≠ stepSession .sync := by decide

theorem test_meets_WritePayloadOfABadSizeSendsNothing :
    (zeros 0).length = 0 ∧ 256 < (zeros 257).length ∧ (atStep .writePayload []).sess = .transferring ∧
      (atStep .writePayload []).pass = .write ∧ (atStep .writePayload []).failReason = .none := by decide +kernel

theorem test_meets_EnterForcesTheBootloader : State.reset.sess = .idle ∧ State.reset.own = false := by decide

theorem test_meets_CloseSessionReleasesTheTarget : (atStep .writeSetup []).own = true := by decide

theorem test_meets_OpenSessionReachesReady :
    (idleWith [] (acks 30)).sess = .idle ∧ (idleWith [] (acks 30)).own = false ∧
      30 ≤ (idleWith [] (acks 30)).rxq.length ∧
      ∀ i ∈ [0, 1, 16, 21, 26, 27, 28, 29],
        (idleWith [] (acks 30)).rxq[i]? = some (idleWith [] (acks 30)).cfg.wire.ack := by decide +kernel

theorem test_meets_OpenSessionEndsReadyOrFaulted_ready :
    (idleWith [] (acks 30)).failReason = .none ∧ noReset (idleWith [] (acks 30)) ∧
      ∃ t, exec .openSession (idleWith [] (acks 30)) = .next t ∧ (t.sess == .ready) = true :=
  ⟨rfl, noReset_of_quiet _ rfl, onNext_exists _ _ (by decide +kernel)⟩

theorem test_meets_OpenSessionEndsReadyOrFaulted_faulted :
    (idleWith [] (acks 29)).failReason = .none ∧ noReset (idleWith [] (acks 29)) ∧
      ∃ t, exec .openSession (idleWith [] (acks 29)) = .next t ∧ (t.sess == .faulted) = true :=
  ⟨rfl, noReset_of_quiet _ rfl, onNext_exists _ _ (by decide +kernel)⟩

theorem test_meets_WritePageSendsThePage :
    (atStep .writeSetup (acks 3)).sess = .transferring ∧ (atStep .writeSetup (acks 3)).pbuf.length = 256 ∧
      ∀ i ∈ [0, 1, 2],
        (atStep .writeSetup (acks 3)).rxq[i]? = some (atStep .writeSetup (acks 3)).cfg.wire.ack := by
  decide +kernel

theorem test_meets_ReadPageFetchesThePage :
    (atStep .readSetup (acks 259)).sess = .transferring ∧ 259 ≤ (atStep .readSetup (acks 259)).rxq.length ∧
      ∀ i ∈ [0, 1, 2],
        (atStep .readSetup (acks 259)).rxq[i]? = some (atStep .readSetup (acks 259)).cfg.wire.ack := by
  decide +kernel

theorem test_meets_SessionAndPageOperationsKeepAllOtherState :
    noReset State.reset ∧ State.reset.rxbuf.length = 257 ∧ noReset (atStep .writeSetup []) ∧
      (∃ t, exec .openSession State.reset = .next t ∧ (t.sess == .faulted) = true) ∧
      (∃ t, exec .writePage (atStep .writeSetup []) = .next t ∧ (t.failReason == .timeout) = true) ∧
      ∃ t, exec .readPage (atStep .writeSetup []) = .next t ∧ (t.failReason == .timeout) = true :=
  ⟨noReset_of_quiet _ rfl, by decide +kernel, noReset_of_quiet _ rfl,
    onNext_exists _ _ (by decide +kernel), onNext_exists _ _ (by decide +kernel),
    onNext_exists _ _ (by decide +kernel)⟩

/-- A session in which a pass over an image of one byte may start. -/
def passReady (queue : List Byte) : State :=
  { atStep .extEraseParam queue with sess := .ready, src := ⟨[0x11], 0⟩ }

theorem test_meets_PassesAndOperationsKeepAllOtherState :
    noReset (passReady []) ∧ noReset (idleWith [0x11] []) ∧ (idleWith [0x11] []).busy = false ∧
      (∃ t, exec .writeImage (passReady []) = .next t ∧ (t.pass == .write) = true) ∧
      (∃ t, exec .verifyImage (passReady []) = .next t ∧ (t.pass == .verify) = true) ∧
      ∃ t, exec .flashAndVerify (idleWith [0x11] []) = .next t ∧ (t.failReason == .timeout) = true :=
  ⟨noReset_of_quiet _ rfl, noReset_of_quiet _ rfl, rfl,
    onNext_exists _ _ (by decide +kernel), onNext_exists _ _ (by decide +kernel),
    onNext_exists _ _ (by decide +kernel)⟩

theorem test_meets_WriteImageSendsEveryPage :
    (passReady (acks 3)).sess = .ready ∧ (passReady (acks 3)).failReason = .none ∧
      (passReady (acks 3)).abort = false ∧ (passReady (acks 3)).src.bytes.length < 2 ^ 32 ∧
      (passReady (acks 3)).wAtt = 0 ∧ (passReady (acks 3)).wOk = 0 ∧
      (∀ b ∈ (passReady (acks 3)).rxq, b = (passReady (acks 3)).cfg.wire.ack) ∧
      3 * pageCount (passReady (acks 3)).src.bytes ≤ (passReady (acks 3)).rxq.length := by decide +kernel

theorem test_meets_VerifyImagePresentsEveryPage :
    (passReady (acks 3 ++ zeros 256)).sess = .ready ∧ (passReady (acks 3 ++ zeros 256)).failReason = .none ∧
      (passReady (acks 3 ++ zeros 256)).abort = false ∧ (passReady (acks 3 ++ zeros 256)).cfg.verifyEn = true ∧
      (passReady (acks 3 ++ zeros 256)).src.bytes.length < 2 ^ 32 ∧ (passReady (acks 3 ++ zeros 256)).vAtt = 0 ∧
      (passReady (acks 3 ++ zeros 256)).vOk = 0 ∧
      [zeros 256].length = pageCount (passReady (acks 3 ++ zeros 256)).src.bytes ∧
      (∀ d ∈ [zeros 256], d.length = 256) ∧
      (passReady (acks 3 ++ zeros 256)).rxq =
        [zeros 256].flatMap (fun d => [0x79, 0x79, 0x79] ++ d) ++ [] := by decide +kernel

theorem test_meets_FlashAndVerifySucceeds :
    atRest (idleWith [0x11] (acks 292)) ∧ (idleWith [0x11] (acks 292)).abort = false ∧
      (∀ b ∈ (idleWith [0x11] (acks 292)).rxq, b = (idleWith [0x11] (acks 292)).cfg.wire.ack) ∧
      30 + 3 * pageCount (idleWith [0x11] (acks 292)).src.bytes +
        (if (idleWith [0x11] (acks 292)).cfg.verifyEn then
          259 * pageCount (idleWith [0x11] (acks 292)).src.bytes else 0)
        ≤ (idleWith [0x11] (acks 292)).rxq.length := by
  unfold atRest; decide +kernel

theorem test_meets_EveryOperationEndsClosed :
    atRest (idleWith [0x11] []) ∧ noReset (idleWith [0x11] []) ∧
      ∃ t, exec .flashAndVerify (idleWith [0x11] []) = .next t ∧ (t.failReason == .timeout) = true :=
  ⟨⟨rfl, rfl, rfl, rfl⟩, noReset_of_quiet _ rfl, onNext_exists _ _ (by decide +kernel)⟩

theorem test_meets_EveryOperationEnds :
    atRest { idleWith [0x11] [] with env := [.target [0x79], .abort true, .timer] } ∧
      contractKept { idleWith [0x11] [] with env := [.target [0x79], .abort true, .timer] } :=
  ⟨⟨rfl, rfl, rfl, rfl⟩, by simp [contractKept, EnvMove.keepsContract]⟩

theorem test_meets_SuccessfulOperationTotals :
    atRest (idleWith [0x11] (acks 292)) ∧ (idleWith [0x11] (acks 292)).src.bytes.length < 2 ^ 32 ∧
      ∃ t, exec .flashAndVerify (idleWith [0x11] (acks 292)) = .next t ∧ t.resOk = true :=
  ⟨⟨rfl, rfl, rfl, rfl⟩, by decide +kernel, onNext_exists _ _ (by decide +kernel)⟩

theorem test_meets_SecondStartIsIgnored :
    ({ atStep .writeSetup [] with env := [.start true] } : State).busy = true ∧
      ({ atStep .writeSetup [] with env := [.start true] } : State).env = .start true :: [] ∧
      ({ atStep .writeSetup [] with env := [.start true] } : State).start = false := by decide

theorem test_meets_SequencerRunsFlashAndVerify :
    atRest { idleWith [0x11] [] with env := [.start true] } ∧
      ({ idleWith [0x11] [] with env := [.start true] } : State).start = false ∧
      ({ idleWith [0x11] [] with env := [.start true] } : State).env = .start true :: [] :=
  ⟨⟨rfl, rfl, rfl, rfl⟩, rfl, rfl⟩

/-- The start of the first page of the write pass, `ABORT` high. -/
def abortDue : State :=
  { passReady [] with sess := .transferring, pass := .write, ctl := .startPage false, abort := true }

theorem test_meets_AbortStopsBeforeThePage :
    otherTurn abortDue = none ∧ abortDue.ctl = .startPage false ∧ abortDue.sess = .transferring ∧
      abortDue.pass = loopPass false ∧ abortDue.failReason = .none ∧ abortDue.abort = true ∧
      abortDue.src.pos < abortDue.src.bytes.length := by decide +kernel

/-- The end of a one-byte image, `ABORT` high. -/
def imageDone : State := { abortDue with src := ⟨[0x11], 1⟩ }

theorem test_meets_AbortIsSeenAtPageStartsOnly :
    (∀ verify, (atStep .get []).ctl = .startPage verify → nextChunk (atStep .get []).src = []) ∧
      imageDone.ctl = .startPage false ∧
      ∀ verify, imageDone.ctl = .startPage verify → nextChunk imageDone.src = [] := by
  decide +kernel

theorem test_meets_OnlyDueStepsSendAndOnlyTheirFrame :
    ∃ t, step (atStep .get (acks 15)) = .next t ∧ (t.tx == [0x00, 0xFF]) = true :=
  onNext_exists _ _ (by decide +kernel)

theorem test_meets_HistoryGrowsParametersAndInputsStay :
    (∃ t, step (atStep .get []) = .next t ∧ (t.ctl == .closing 0) = true) ∧
      (∀ level, EnvMove.start level ∉ (atStep .get []).env) ∧ ∀ level, EnvMove.abort level ∉ (atStep .get []).env :=
  ⟨onNext_exists _ _ (by decide +kernel), fun _ => List.not_mem_nil, fun _ => List.not_mem_nil⟩

/-- The close sequence after a recorded failure, with `CONTRACT_VIOL` set. -/
def failed : State :=
  { atStep .get [] with sess := .faulted, failReason := .timeout, ctl := .closing 0, contractViol := true }

theorem test_meets_ContractViolIsSticky :
    (∃ t, step failed = .next t ∧ (t.sess == .closing) = true) ∧ noReset failed ∧ failed.contractViol = true :=
  ⟨onNext_exists _ _ (by decide +kernel), noReset_of_quiet _ rfl, rfl⟩

theorem test_meets_FirstFailureStaysOnRecord :
    (∃ t, step failed = .next t ∧ (t.sess == .closing) = true) ∧ noReset failed ∧
      failed.failReason ≠ .none ∧ failed.ctl ≠ .rest :=
  ⟨onNext_exists _ _ (by decide +kernel), noReset_of_quiet _ rfl, by decide, by decide⟩

/-- At rest after a failed operation, HOST lowering `START`. -/
def afterFailure : State := { State.reset with failReason := .timeout, start := true, env := [.start false] }

theorem test_meets_FirstFailureStaysOnRecord_at_rest :
    (∃ t, step afterFailure = .next t ∧ (!t.start) = true) ∧ noReset afterFailure ∧
      afterFailure.failReason ≠ .none ∧ afterFailure.ctl = .rest ∧ afterFailure.start ≠ false :=
  ⟨onNext_exists _ _ (by decide +kernel), by simp [noReset, afterFailure], by decide, by decide, by decide⟩

theorem test_meets_ResetRunsNoCloseSequence :
    ({ atStep .writeSetup [] with env := [.reset] } : State).env = .reset :: [] := rfl

theorem test_meets_StepsKeepTheShape :
    Shape (atStep .readLength (acks 257)) ∧
      ∃ t, step (atStep .readLength (acks 257)) = .next t ∧ (t.ctl == .finishPage true) = true :=
  ⟨by unfold Shape; decide +kernel, onNext_exists _ _ (by decide +kernel)⟩

theorem test_meets_StepsKeepTheSequence :
    SequenceInv (atStep .sync (acks 1)) ∧
      ∃ t, step (atStep .sync (acks 1)) = .next t ∧ (t.sess == .synced) = true :=
  ⟨⟨⟨⟨rfl, rfl, rfl, rfl⟩, rfl, rfl, rfl⟩, fun _ => rfl⟩, onNext_exists _ _ (by decide +kernel)⟩

/-- Page 0 of an image of one byte begun, `WriteSetup` due. -/
def pageBegun : State :=
  { atStep .writeSetup (acks 1) with
    src := ⟨[0x11], 1⟩, addr := be32 0x08000000, wAtt := 1, pbuf := 0x11 :: zeros 255, chunkLen := 1 }

theorem test_meets_StepsKeepThePage :
    Shape pageBegun ∧ SequenceInv pageBegun ∧ PageInv pageBegun ∧
      ∃ t, step pageBegun = .next t ∧ (t.ctl == .command .writeAddress) = true :=
  ⟨by unfold Shape; decide +kernel, ⟨⟨⟨rfl, rfl, rfl, rfl⟩, rfl, rfl, rfl⟩, fun _ => rfl⟩,
    ⟨by decide +kernel, by decide +kernel, by decide +kernel,
      ⟨by decide +kernel, by decide +kernel, by decide +kernel, by decide +kernel⟩,
      fun _ => ⟨by decide +kernel, by decide +kernel⟩⟩,
    onNext_exists _ _ (by decide +kernel)⟩

theorem test_meets_StepsNeverStop :
    SequenceInv (atStep .sync []) ∧ contractKept (atStep .sync []) :=
  ⟨⟨⟨⟨rfl, rfl, rfl, rfl⟩, rfl, rfl, rfl⟩, fun _ => rfl⟩, contractKept_of_quiet _ rfl⟩

end Sys2Proof.Tests
end

section
/-! PROOF. The history of the machine (00_scope.md R12, R41, R329, 10_state.md R36): a relation between a state
and a later one that every operation keeps, one lemma per operation in the order of the definitions, and from
them the statement about `step`. -/

namespace Sys2Proof.Machine

/-! ### The relation -/

/-- HOST drives `START` in no move to come. -/
def startQuiet (s : State) : Prop := ∀ level, EnvMove.start level ∉ s.env

/-- HOST drives `ABORT` in no move to come. -/
def abortQuiet (s : State) : Prop := ∀ level, EnvMove.abort level ∉ s.env

/-- What a part of a run from `s` to `t` leaves of the past: `TX` and the trace are extended, the parameters
stay, no move joins the schedule, and an input changes only where the schedule of `s` holds a move of HOST
that drives it. That the schedule only shrinks is what makes the last two clauses compose. -/
structure HistoryGrows (s t : State) : Prop where
  tx : s.tx <+: t.tx
  trace : s.trace <+: t.trace
  cfg : t.cfg = s.cfg
  env : t.env ⊆ s.env
  start : startQuiet s → t.start = s.start
  abort : abortQuiet s → t.abort = s.abort

namespace HistoryGrows

theorem refl (s : State) : HistoryGrows s s :=
  ⟨List.prefix_refl _, List.prefix_refl _, rfl, List.Subset.refl _, fun _ => rfl, fun _ => rfl⟩

theorem trans {s t u : State} (first : HistoryGrows s t) (second : HistoryGrows t u) : HistoryGrows s u where
  tx := first.tx.trans second.tx
  trace := first.trace.trans second.trace
  cfg := second.cfg.trans first.cfg
  env := List.Subset.trans second.env first.env
  start quiet := (second.start fun level hm => quiet level (first.env hm)).trans (first.start quiet)
  abort quiet := (second.abort fun level hm => quiet level (first.env hm)).trans (first.abort quiet)

/-- An action of the engine that sends `bytes` and emits `events` and touches neither the parameters, the
inputs nor the schedule. -/
theorem of_appended {s t : State} (bytes : List Byte) (events : List Event) (htx : t.tx = s.tx ++ bytes)
    (htrace : t.trace = s.trace ++ events) (hcfg : t.cfg = s.cfg) (henv : t.env = s.env)
    (hstart : t.start = s.start) (habort : t.abort = s.abort) : HistoryGrows s t :=
  ⟨⟨bytes, htx.symm⟩, ⟨events, htrace.symm⟩, hcfg, henv ▸ List.Subset.refl _, fun _ => hstart, fun _ => habort⟩

/-- An action of the engine that touches none of the six fields. -/
theorem of_unchanged {s t : State} (htx : t.tx = s.tx) (htrace : t.trace = s.trace) (hcfg : t.cfg = s.cfg)
    (henv : t.env = s.env) (hstart : t.start = s.start) (habort : t.abort = s.abort) : HistoryGrows s t :=
  of_appended [] [] (by simp [htx]) (by simp [htrace]) hcfg henv hstart habort

/-- Spending the head of the schedule. -/
theorem of_spent {s : State} {m : EnvMove} {rest : List EnvMove} (he : s.env = m :: rest) :
    HistoryGrows s { s with env := rest } :=
  ⟨List.prefix_refl _, List.prefix_refl _, rfl, by simp [he], fun _ => rfl, fun _ => rfl⟩

/-- Where control goes next is no part of the history. -/
theorem withCtl {s t : State} (grown : HistoryGrows s t) (next : Ctl) : HistoryGrows s { t with ctl := next } :=
  grown.trans (.of_unchanged rfl rfl rfl rfl rfl rfl)

end HistoryGrows

/-! ### Moves of the other agents -/

/-- The inputs are HOST's: a move changes `START` or `ABORT` only if it drives it, and a reset changes
neither (R36). -/
theorem otherMove_inputs {m : EnvMove} {s t : State} (h : (otherMove m s).outcome = .next t) :
    ((∀ level, m ≠ .start level) → t.start = s.start) ∧ ((∀ level, m ≠ .abort level) → t.abort = s.abort) := by
  cases m with
  | start level => cases h; exact ⟨fun hm => absurd rfl (hm level), fun _ => rfl⟩
  | abort level => cases h; exact ⟨fun _ => rfl, fun hm => absurd rfl (hm level)⟩
  | engine | timer | target | reset => cases h; exact ⟨fun _ => rfl, fun _ => rfl⟩
  | attach | takeLink | driveLines =>
    simp only [otherMove] at h
    split at h <;> cases h
    exact ⟨fun _ => rfl, fun _ => rfl⟩

/-- A move of another agent or a reset sends and emits nothing and leaves the parameters and the schedule. -/
theorem otherMove_keeps {m : EnvMove} {s t : State} (h : (otherMove m s).outcome = .next t) :
    t.tx = s.tx ∧ t.trace = s.trace ∧ t.cfg = s.cfg ∧ t.env = s.env := by
  have spec := otherMove_spec m s
  cases hm : otherMove m s with
  | on u =>
    simp only [hm] at spec
    obtain ⟨moved, henv, -⟩ := spec
    rw [hm] at h
    cases h
    rw [moved.same]
    exact ⟨rfl, rfl, rfl, henv⟩
  | reset u =>
    simp only [hm] at spec
    obtain ⟨rfl, -⟩ := spec
    rw [hm] at h
    cases h
    exact ⟨rfl, rfl, rfl, rfl⟩
  | broken => rw [hm] at h; cases h

/-- The move at the head of the schedule, made. -/
theorem otherMove_historyGrows {m : EnvMove} {rest : List EnvMove} {s t : State} (he : s.env = m :: rest)
    (h : (otherMove m { s with env := rest }).outcome = .next t) : HistoryGrows s t := by
  obtain ⟨htx, htrace, hcfg, henv⟩ := otherMove_keeps h
  obtain ⟨hstart, habort⟩ := otherMove_inputs h
  refine ⟨htx ▸ List.prefix_refl _, htrace ▸ List.prefix_refl _, hcfg, by simp [henv, he], fun quiet => ?_,
    fun quiet => ?_⟩
  · exact hstart fun level hm => quiet level (by simp [he, hm])
  · exact habort fun level hm => quiet level (by simp [he, hm])

/-! ### The exchange -/

/-- However a wait ends, only moves of its schedule were made. -/
theorem waitLoop_historyGrows (n : Nat) (moves : List EnvMove) (s : State) (he : s.env = moves) :
    match waitLoop n moves s with
    | .avail t => HistoryGrows s t
    | .timeout t => HistoryGrows s t
    | .reset t => HistoryGrows s t
    | .broken => True := by
  induction moves generalizing s with
  | nil =>
    unfold waitLoop
    by_cases ready : n ≤ s.rxq.length <;> simp only [ready, if_true, if_false] <;> exact .refl s
  | cons m rest ih =>
    unfold waitLoop
    by_cases ready : n ≤ s.rxq.length
    · simp only [ready, if_true]
      exact .refl s
    by_cases timer : m = .timer
    · simp only [ready, timer, if_true, if_false]
      exact .of_spent he
    simp only [ready, timer, if_false]
    cases hm : otherMove m { s with env := rest } with
    | on u =>
      have moved : (otherMove m { s with env := rest }).outcome = .next u := by rw [hm]; rfl
      obtain ⟨-, -, -, henv⟩ := otherMove_keeps moved
      have head := otherMove_historyGrows he moved
      have tail := ih u henv
      cases hw : waitLoop n rest u <;> simp only [hw] at tail ⊢ <;> exact head.trans tail
    | reset u => exact otherMove_historyGrows he (by rw [hm]; rfl)
    | broken => trivial

/-- However `WaitForBytes` ends, only moves of the schedule were made (R151). -/
theorem waitForBytes_historyGrows (n : Nat) (s : State) :
    match waitForBytes n s with
    | .avail t => HistoryGrows s t
    | .timeout t => HistoryGrows s t
    | .reset t => HistoryGrows s t
    | .broken => True :=
  waitLoop_historyGrows n s.env s rfl

theorem send_historyGrows (bytes : List Byte) (s : State) : HistoryGrows s (send bytes s) :=
  .of_appended bytes [.tx bytes] rfl rfl rfl rfl rfl rfl

theorem readBytes_historyGrows {n : Nat} {s t : State} {bytes : List Byte} (h : readBytes n s = some (bytes, t)) :
    HistoryGrows s t := by
  unfold readBytes at h
  split at h <;> cases h
  exact .of_appended [] [.rx (s.rxq.take n)] (List.append_nil _).symm rfl rfl rfl rfl rfl

theorem raiseFail_historyGrows (reason : FailReason) (st : StepId) (s : State) :
    HistoryGrows s (raiseFail reason st s) := by
  apply HistoryGrows.of_unchanged <;> simp

/-- `Exchange` is a send, the others' moves during the wait, a read and perhaps a failure (R153). -/
theorem exchange_historyGrows {frame : List Byte} {n : Nat} {st : StepId} {s t : State}
    (h : (exchange frame n st s).outcome = .next t) : HistoryGrows s t := by
  have issued : HistoryGrows s { s with step := some st } := .of_unchanged rfl rfl rfl rfl rfl rfl
  have sent := issued.trans (send_historyGrows frame _)
  have waited := waitForBytes_historyGrows n (send frame { s with step := some st })
  unfold exchange at h
  cases hw : waitForBytes n (send frame { s with step := some st }) with
  | timeout v =>
    simp only [hw] at waited h
    cases h
    exact (sent.trans waited).trans (raiseFail_historyGrows _ _ v)
  | reset v =>
    simp only [hw] at waited h
    cases h
    exact sent.trans waited
  | broken =>
    simp only [hw] at h
    cases h
  | avail v =>
    simp only [hw] at waited h
    cases hr : readBytes n v with
    | none => simp only [hr] at h; cases h
    | some read =>
      have received := (sent.trans waited).trans (readBytes_historyGrows hr)
      simp only [hr] at h
      split at h <;> cases h
      · exact received
      · exact received.trans (raiseFail_historyGrows _ _ _)

/-! ### Command steps -/

theorem commandStep_historyGrows {frame : List Byte} {st : StepId} {s t : State}
    (h : (commandStep frame st s).outcome = .next t) : HistoryGrows s t := by
  by_cases hs : s.sess = stepSession st
  · rw [commandStep_inSession frame st s hs] at h
    exact exchange_historyGrows h
  · rw [commandStep_outside frame st s hs] at h
    cases h

theorem payloadStep_historyGrows {payload : List Byte} {st : StepId} {s t : State}
    (h : (payloadStep payload st s).outcome = .next t) : HistoryGrows s t := by
  unfold payloadStep at h
  split at h
  · exact commandStep_historyGrows h
  · split at h <;> cases h
    have issued : HistoryGrows s { s with step := some st } := .of_unchanged rfl rfl rfl rfl rfl rfl
    exact issued.trans (raiseFail_historyGrows _ _ _)

/-- Every instruction the sequencer issues is a command step (R100); only `WritePayload` may fail unsent
(R287). -/
theorem exec_issue_historyGrows {st : StepId} {s t : State} (h : exec (issue st s) s = .next t) :
    HistoryGrows s t := by
  cases st with
  | writePayload => exact payloadStep_historyGrows h
  | sync | get | getVersion | getId | eraseCmd | eraseParam | extEraseCmd | extEraseParam | writeSetup
  | writeAddress | readSetup | readAddress | readLength => exact commandStep_historyGrows h

theorem retireStep_historyGrows (st : StepId) (s : State) : HistoryGrows s (retireStep st s) := by
  by_cases hc : s.ctl = .command st
  · rw [retireStep_here st s hc]
    cases st <;> exact .of_unchanged rfl rfl rfl rfl rfl rfl
  · rw [retireStep_moved st s hc]
    exact .refl s

/-! ### The sequence's own actions -/

/-- A changed outcome is a next state exactly if the outcome was. -/
theorem mapNext_eq_next_iff {f : State → State} {o : Host.Outcome State Fault Refusal} {t : State} :
    mapNext f o = .next t ↔ ∃ u, o = .next u ∧ f u = t := by
  cases o <;> simp [mapNext]

theorem lineAction_historyGrows {a : LineAction} {s t : State} (h : (lineAction a s).outcome = .next t) :
    HistoryGrows s t := by
  cases a with
  | take | opened | closing | release => cases h; exact .of_unchanged rfl rfl rfl rfl rfl rfl
  | gpio line level =>
    simp only [lineAction] at h
    split at h <;> cases h
    cases line <;> exact .of_appended [] [_] (List.append_nil _).symm rfl rfl rfl rfl rfl
  | delay d =>
    simp only [lineAction] at h
    split at h <;> cases h
    exact .of_appended [] [_] (List.append_nil _).symm rfl rfl rfl rfl rfl

/-- A line action with the move of control that the sequence adds to it. -/
theorem lineAction_moved_historyGrows {a : LineAction} {s t : State} {next : Ctl}
    (h : mapNext (fun u => { u with ctl := next }) (lineAction a s).outcome = .next t) : HistoryGrows s t := by
  obtain ⟨u, hu, rfl⟩ := mapNext_eq_next_iff.mp h
  exact (lineAction_historyGrows hu).withCtl next

theorem enterAction_historyGrows {k : Nat} {s t : State} (h : enterAction k s = .next t) : HistoryGrows s t := by
  unfold enterAction at h
  split at h
  · cases h
  · split at h
    · cases h
    · exact lineAction_moved_historyGrows h

theorem closeAction_historyGrows {k : Nat} {s t : State} (h : closeAction k s = .next t) : HistoryGrows s t := by
  unfold closeAction at h
  split at h
  · cases h
  · split at h
    · cases h
    · exact lineAction_moved_historyGrows h

theorem startPass_historyGrows (verify : Bool) (s : State) : HistoryGrows s (startPass verify s) :=
  .of_appended [] [.srcRewind] (List.append_nil _).symm rfl rfl rfl rfl rfl

theorem srcRead_historyGrows (s : State) : HistoryGrows s (srcRead s) :=
  .of_appended [] [.srcRead (nextChunk s.src)] (List.append_nil _).symm rfl rfl rfl rfl rfl

/-- A page starts with a `SrcRead`; an abort and the counting and fetching of the page add nothing to the
history (R243, R256). -/
theorem startPage_historyGrows (verify : Bool) (s : State) :
    match startPage verify s with
    | .exhausted t => HistoryGrows s t
    | .aborted t => HistoryGrows s t
    | .page t => HistoryGrows s t := by
  have read := srcRead_historyGrows s
  have spec := startPage_spec verify s
  cases hp : startPage verify s with
  | exhausted t =>
    simp only [hp] at spec ⊢
    obtain ⟨-, rfl⟩ := spec
    exact read
  | aborted t =>
    simp only [hp] at spec ⊢
    obtain ⟨-, -, rfl⟩ := spec
    exact read.trans (by apply HistoryGrows.of_unchanged <;> simp)
  | page t =>
    simp only [hp] at spec ⊢
    obtain ⟨-, -, rfl⟩ := spec
    cases verify <;> exact read.trans (.of_unchanged rfl rfl rfl rfl rfl rfl)

theorem finishPage_historyGrows (verify : Bool) (s : State) : HistoryGrows s (finishPage verify s) := by
  cases verify
  · exact .of_unchanged rfl rfl rfl rfl rfl rfl
  · exact .of_appended [] [_] (List.append_nil _).symm rfl rfl rfl rfl rfl

theorem finish_historyGrows (s : State) : HistoryGrows s (finish s) :=
  .of_appended [] [_] (List.append_nil _).symm rfl rfl rfl rfl rfl

theorem sequenceAction_historyGrows {s t : State} (h : sequenceAction s = .next t) : HistoryGrows s t := by
  unfold sequenceAction at h
  split at h
  · exact closeAction_historyGrows h
  cases hc : s.ctl with
  | rest =>
    simp only [hc] at h
    split at h <;> cases h
    exact .refl s
  | entering k => simp only [hc] at h; exact enterAction_historyGrows h
  | command st => simp only [hc] at h; cases h
  | startPass verify =>
    simp only [hc] at h
    split at h <;> cases h
    exact (startPass_historyGrows verify s).withCtl _
  | startPage verify =>
    have started := startPage_historyGrows verify s
    cases hp : startPage verify s with
    | aborted u => simp only [hc, hp] at h started; cases h; exact started
    | exhausted u | page u => simp only [hc, hp] at h started; cases h; exact started.withCtl _
  | finishPage verify =>
    simp only [hc] at h
    cases h
    exact (finishPage_historyGrows verify s).withCtl _
  | closing k => simp only [hc] at h; exact closeAction_historyGrows h
  | finish => simp only [hc] at h; cases h; exact finish_historyGrows s

/-! ### The step -/

theorem engineStep_historyGrows {s t : State} (h : engineStep s = .next t) : HistoryGrows s t := by
  unfold engineStep at h
  cases hd : dueStep s with
  | none => simp only [hd] at h; exact sequenceAction_historyGrows h
  | some st =>
    simp only [hd] at h
    obtain ⟨u, hu, rfl⟩ := mapNext_eq_next_iff.mp h
    exact (exec_issue_historyGrows hu).trans (retireStep_historyGrows st u)

/-- The other agent's turn is the head of the schedule. -/
theorem otherTurn_eq_some {s t : State} {m : EnvMove} (h : otherTurn s = some (m, t)) :
    ∃ rest, s.env = m :: rest ∧ t = { s with env := rest } := by
  unfold otherTurn at h
  split at h
  · cases h
  · split at h <;> cases h
    exact ⟨_, ‹_›, rfl⟩

theorem engineTurn_historyGrows (s : State) : HistoryGrows s (engineTurn s) := by
  unfold engineTurn
  split
  · exact .refl s
  · split
    · exact .of_spent ‹_›
    · exact .refl s

/-- The acceptance of `START` clears result registers only (R258): the raise itself was HOST's. -/
theorem otherAction_historyGrows {m : EnvMove} {rest : List EnvMove} {s t : State} (he : s.env = m :: rest)
    (h : otherAction m { s with env := rest } = .next t) : HistoryGrows s t := by
  unfold otherAction at h
  split at h
  · obtain ⟨u, hu, rfl⟩ := mapNext_eq_next_iff.mp h
    exact (otherMove_historyGrows he hu).trans (.of_unchanged rfl rfl rfl rfl rfl rfl)
  · exact otherMove_historyGrows he h

theorem step_historyGrows {s t : State} (h : step s = .next t) : HistoryGrows s t := by
  unfold step at h
  cases ht : otherTurn s with
  | none =>
    simp only [ht] at h
    exact (engineTurn_historyGrows s).trans (engineStep_historyGrows h)
  | some turn =>
    obtain ⟨rest, he, hs⟩ := otherTurn_eq_some ht
    simp only [ht, hs] at h
    exact otherAction_historyGrows he h

/-- Settles O51: the history relation holds of every step, and its clauses are the statement's. -/
theorem historyGrowsParametersAndInputsStay : Obligations.HistoryGrowsParametersAndInputsStay := by
  intro s t h
  obtain ⟨htx, htrace, hcfg, -, hstart, habort⟩ := step_historyGrows h
  exact ⟨htx, htrace, hcfg, hstart, habort⟩

end Sys2Proof.Machine
end

section
/-! PROOF. What a step can do, said once: the end of a command step, the engine's turn and the step, each as a
relation with one constructor per way it can go. The invariants and frames below are case splits over them. -/

namespace Sys2Proof.Machine

/-! ### Moves of the other agents and line actions as updates -/

/-- Moves of the other agents, as an update of the fields they reach. -/
theorem OthersMoved.exists_eq {s t : State} (moved : OthersMoved s t) :
    ∃ rxq viol start abort src env,
      t = { s with
        rxq := rxq, contractViol := viol, start := start, abort := abort, src := src, env := env } ∧
      (s.busy = true → src = s.src) ∧ (s.contractViol = true → viol = true) :=
  ⟨_, _, _, _, _, _, moved.same, moved.busy, moved.sticky⟩

/-- A line action, as an update of the fields it reaches (R170, R172, R182). -/
theorem lineAction_exists_eq {a : LineAction} {s t : State} (h : lineAction a s = .ok t) :
    ∃ own rst mode sess pass st trace,
      t = { s with
        own := own, rstLine := rst, modeLine := mode, sess := sess, pass := pass, step := st, trace := trace } := by
  have spec := lineAction_spec a s
  simp only [h] at spec
  exact ⟨_, _, _, _, _, _, _, spec⟩

/-! ### The source during a wait -/

/-- `P` holds of the state a wait ends in, if it ends in one. -/
def Waited.Holds (P : State → Prop) : Waited → Prop
  | .avail t => P t
  | .timeout t => P t
  | .reset t => P t
  | .broken => True

/-- What every move of another agent and the spending of the schedule keep, a wait keeps (R151). -/
theorem waitLoop_holds {P : State → Prop} (spent : ∀ s env, P s → P { s with env := env })
    (moved : ∀ m s t, (otherMove m s).outcome = .next t → P s → P t) (n : Nat) (moves : List EnvMove) (s : State)
    (holds : P s) : (waitLoop n moves s).Holds P := by
  induction moves generalizing s with
  | nil =>
    unfold waitLoop
    by_cases ready : n ≤ s.rxq.length <;> simp only [ready, if_true, if_false] <;> exact holds
  | cons m rest ih =>
    unfold waitLoop
    by_cases ready : n ≤ s.rxq.length
    · simp only [ready, if_true]
      exact holds
    by_cases timer : m = .timer
    · simp only [ready, timer, if_true, if_false]
      exact spent s rest holds
    simp only [ready, timer, if_false]
    have head := spent s rest holds
    cases hm : otherMove m { s with env := rest } with
    | on u => exact ih u (moved m _ u (by rw [hm]; rfl) head)
    | reset u => exact moved m _ u (by rw [hm]; rfl) head
    | broken => trivial

/-- The source is an image shorter than `2^32` bytes with a position inside it (R42, R8). -/
def sourceOk (src : Source) : Prop := src.pos ≤ src.bytes.length ∧ src.bytes.length < 2 ^ 32

/-- HOST attaches byte sources only (R327), and no other agent writes the source. -/
theorem otherMove_sourceOk {m : EnvMove} {s t : State} (h : (otherMove m s).outcome = .next t)
    (ok : sourceOk s.src) : sourceOk t.src := by
  cases m with
  | attach image pos =>
    simp only [otherMove] at h
    split at h <;> cases h
    rename_i allowed
    obtain ⟨-, short, inside⟩ := allowed
    exact ⟨inside, short⟩
  | engine | timer | target | start | abort | reset => cases h; exact ok
  | takeLink | driveLines =>
    simp only [otherMove] at h
    split at h <;> cases h
    exact ok

theorem readBytes_src {n : Nat} {s t : State} {bytes : List Byte} (h : readBytes n s = some (bytes, t)) :
    t.src = s.src := by
  unfold readBytes at h
  split at h <;> cases h
  rfl

/-- The engine writes the source in no exchange; what is attached meanwhile is a byte source. -/
theorem exchange_sourceOk {frame : List Byte} {n : Nat} {st : StepId} {s t : State}
    (h : (exchange frame n st s).outcome = .next t) (ok : sourceOk s.src) : sourceOk t.src := by
  have waited : (waitForBytes n (send frame { s with step := some st })).Holds fun t => sourceOk t.src :=
    waitLoop_holds (fun _ _ ok => ok) (fun _ _ _ => otherMove_sourceOk) n _ _ ok
  unfold exchange at h
  cases hw : waitForBytes n (send frame { s with step := some st }) with
  | timeout v =>
    simp only [hw] at waited h
    cases h
    simpa [Waited.Holds] using waited
  | reset v =>
    simp only [hw] at waited h
    cases h
    exact waited
  | broken =>
    simp only [hw] at h
    cases h
  | avail v =>
    simp only [hw] at waited h
    cases hr : readBytes n v with
    | none => simp only [hr] at h; cases h
    | some read =>
      have same := readBytes_src hr
      simp only [hr] at h
      split at h <;> cases h
      · exact same ▸ waited
      · rw [raiseFail_src, same]
        exact waited

/-! ### Command steps -/

/-- The state after a `ReadBytes(n)` that finds its bytes (R152). -/
def received (n : Nat) (s : State) : State :=
  emit (.rx (s.rxq.take n))
    { s with rxq := s.rxq.drop n, rxbuf := fillRxbuf (s.rxq.take n) s.rxbuf, rxLen := BitVec.ofNat 9 n }

/-- `received` is what the model's `ReadBytes` leaves. -/
theorem readBytes_eq_received {n : Nat} {s : State} (h : n ≤ s.rxq.length) :
    readBytes n s = some (s.rxq.take n, received n s) := readBytes_ready n s h

/-- `RXBUF` keeps its registers from the response length on (R23). -/
theorem getElem?_fillRxbuf {bytes old : List Byte} (h : old.length = 257) {i : Nat} (hi : bytes.length ≤ i) :
    (fillRxbuf bytes old)[i]? = old[i]? := by
  unfold fillRxbuf
  by_cases inside : i < 257
  · rw [List.getElem?_take_of_lt inside, List.getElem?_append_right hi, List.getElem?_drop,
      Nat.add_sub_cancel' hi]
  · rw [List.getElem?_take_eq_none (by omega), List.getElem?_eq_none (by omega)]

/-- The step `st` with a response of `n` bytes was issued in `s` and is not judged yet: `STEP`, the transport
registers and what the other agents moved meanwhile may differ from `s`, nothing else (R153, R23). -/
inductive Underway (n : Nat) (st : StepId) (s : State) : State → Prop
  | intro (tx rxq rxbuf : List Byte) (rxLen : BitVec 9) (trace : List Event) (viol start abort : Bool)
      (src : Source) (env : List EnvMove) (busy : s.busy = true → src = s.src)
      (sticky : s.contractViol = true → viol = true)
      (buffer : s.rxbuf.length = 257 → rxbuf.length = 257 ∧ ∀ i, n ≤ i → rxbuf[i]? = s.rxbuf[i]?)
      (length : rxLen = s.rxLen ∨ rxLen = BitVec.ofNat 9 n) (source : sourceOk s.src → sourceOk src) :
      Underway n st s { s with
        step := some st, tx := tx, rxq := rxq, rxbuf := rxbuf, rxLen := rxLen, trace := trace
        contractViol := viol, start := start, abort := abort, src := src, env := env }

namespace Underway

variable {n : Nat} {st : StepId} {s w : State}

/-- A step that is only named. -/
theorem named (n : Nat) (st : StepId) (s : State) : Underway n st s { s with step := some st } :=
  .intro _ _ _ _ _ _ _ _ _ _ (fun _ => rfl) id (fun h => ⟨h, fun _ _ => rfl⟩) (.inl rfl) id

/-- After the request is sent the other agents move (R150, R151). -/
theorem of_waited {frame : List Byte} (moved : OthersMoved (send frame { s with step := some st }) w)
    (source : sourceOk s.src → sourceOk w.src) : Underway n st s w := by
  obtain ⟨rxq, viol, start, abort, src, env, rfl, busy, sticky⟩ := moved.exists_eq
  exact .intro _ _ _ _ _ _ _ _ _ _ busy sticky (fun h => ⟨h, fun _ _ => rfl⟩) (.inl rfl) source

/-- Then the response is read (R152). -/
theorem receive (waited : Underway n st s w) (queued : n ≤ w.rxq.length) : Underway n st s (received n w) := by
  cases waited with
  | intro tx rxq rxbuf rxLen trace viol start abort src env busy sticky buffer length source =>
    have taken : (rxq.take n).length = n := by rw [List.length_take]; exact Nat.min_eq_left queued
    refine .intro _ _ _ _ _ _ _ _ _ _ busy sticky (fun h => ?_) (.inr rfl) source
    obtain ⟨size, kept⟩ := buffer h
    exact ⟨fillRxbuf_length _ _ size,
      fun i hi => (getElem?_fillRxbuf size (taken.le.trans hi)).trans (kept i hi)⟩

end Underway

/-- The ends of a command step: acknowledged, failed, cut off by a reset, or refused (R153, R284, R321, R230). -/
inductive CommandEnd (n : Nat) (st : StepId) (s : State) : Flow → Prop
  | acknowledged {w : State} : Underway n st s w → CommandEnd n st s (.ok w)
  | failed {w : State} (reason : FailReason) : reason ≠ .none → Underway n st s w →
      CommandEnd n st s (.fail (raiseFail reason st w))
  | reset {w : State} : EnvMove.reset ∈ s.env → Underway n st s w → CommandEnd n st s (.reset (engineReset w))
  | refused (r : Refusal) : CommandEnd n st s (.refused r)

theorem exchange_commandEnd (frame : List Byte) (n : Nat) (st : StepId) (s : State) :
    CommandEnd n st s (exchange frame n st s) := by
  have spec := exchange_spec frame n st s
  have source {t : State} : (exchange frame n st s).outcome = .next t → sourceOk s.src → sourceOk t.src :=
    exchange_sourceOk
  cases he : exchange frame n st s with
  | ok u =>
    simp only [he] at spec source
    have kept := source rfl
    obtain ⟨v, moved, queued, -, rfl⟩ := spec
    exact .acknowledged ((Underway.of_waited moved kept).receive queued)
  | fail u =>
    simp only [he] at spec source
    have kept := source rfl
    obtain ⟨v, moved, ⟨-, rfl⟩ | ⟨queued, -, rfl⟩⟩ := spec <;> rw [raiseFail_src] at kept
    · exact .failed .timeout (by decide) (Underway.of_waited moved kept)
    · exact .failed .protocolNack (by decide) ((Underway.of_waited moved kept).receive queued)
  | reset u =>
    simp only [he] at spec source
    have kept := source rfl
    obtain ⟨v, moved, rfl, mem⟩ := spec
    exact .reset mem (Underway.of_waited moved kept)
  | fault f => simp only [he] at spec
  | refused r => exact .refused r

theorem commandStep_commandEnd (frame : List Byte) (st : StepId) (s : State) :
    CommandEnd (ackLen st) st s (commandStep frame st s) := by
  by_cases hs : s.sess = stepSession st
  · rw [commandStep_inSession frame st s hs]
    exact exchange_commandEnd frame _ st s
  · rw [commandStep_outside frame st s hs]
    exact .refused _

theorem payloadStep_commandEnd (payload : List Byte) (st : StepId) (s : State) :
    CommandEnd (ackLen st) st s (payloadStep payload st s) := by
  unfold payloadStep
  split
  · exact commandStep_commandEnd _ st s
  · split
    · exact .failed .invalidPayloadSize (by decide) (.named _ st s)
    · exact .refused _

/-- The command step `st` with its operand from the registers (R211, R212, R221). -/
def stepFlow (st : StepId) (s : State) : Flow :=
  match st with
  | .sync => flowSync s
  | .get => flowGet s
  | .getVersion => flowGetVersion s
  | .getId => flowGetId s
  | .eraseCmd => flowEraseCmd s
  | .eraseParam => flowEraseParam s
  | .extEraseCmd => flowExtEraseCmd s
  | .extEraseParam => flowExtEraseParam s
  | .writeSetup => flowWriteSetup s
  | .writeAddress => flowWriteAddress s.addr s
  | .writePayload => flowWritePayload s.pbuf s
  | .readSetup => flowReadSetup s
  | .readAddress => flowReadAddress s.addr s
  | .readLength => flowReadLength s

/-- What the sequencer issues for a step is that step. -/
theorem exec_issue (st : StepId) (s : State) : exec (issue st s) s = (stepFlow st s).outcome := by
  cases st <;> rfl

/-- Everything a command step the sequencer issues can come to. -/
theorem stepFlow_commandEnd (st : StepId) (s : State) : CommandEnd (ackLen st) st s (stepFlow st s) := by
  cases st with
  | writePayload => exact payloadStep_commandEnd s.pbuf _ s
  | sync | get | getVersion | getId | eraseCmd | eraseParam | extEraseCmd | extEraseParam | writeSetup
  | writeAddress | readSetup | readAddress | readLength => exact commandStep_commandEnd _ _ s

/-! ### The engine's turn -/

/-- The step that is due is the one control stands at (R28). -/
theorem ctl_of_dueStep {s : State} {st : StepId} (h : dueStep s = some st) : s.ctl = .command st := by
  unfold dueStep at h
  split at h
  · cases h
  · split at h <;> cases h
    assumption

/-- A page that exists, begun: read, in the write pass fetched into `PBUF`, and counted (R243, R244, R250). -/
def beginPage (verify : Bool) (s : State) : State :=
  if verify then { srcRead s with vAtt := s.vAtt + 1 }
  else { loadPage (nextChunk s.src) (srcRead s) with wAtt := s.wAtt + 1 }

/-- Everything the engine's turn can come to: the ends of the step that is due, and the sequence's own
actions in the order of `Ctl`. -/
inductive EngineMove (s : State) : State → Prop
  /-- The step was acknowledged and the sequence goes on (R104). -/
  | advances {st : StepId} {w : State} : s.ctl = .command st → Underway (ackLen st) st s w →
      EngineMove s (afterStep st w)
  /-- The step failed (R284). -/
  | fails {st : StepId} {w : State} (reason : FailReason) : s.ctl = .command st → reason ≠ .none →
      Underway (ackLen st) st s w → EngineMove s (raiseFail reason st w)
  /-- The engine was reset while the step waited (R321). -/
  | resets {st : StepId} {w : State} : s.ctl = .command st → EnvMove.reset ∈ s.env →
      Underway (ackLen st) st s w → EngineMove s (engineReset w)
  /-- There is nothing to do. -/
  | rests : s.ctl = .rest → EngineMove s s
  /-- Action `k` of `enter` (R172). -/
  | enters {k : Nat} {a : LineAction} {t : State} : s.ctl = .entering k → enterScript[k]? = some a →
      lineAction a s = .ok t →
      EngineMove s { t with ctl := if k + 1 = enterScript.length then .command .sync else .entering (k + 1) }
  /-- Action `k` of `closeSession` (R182); from `Faulted` and `Erasing` the first (R184, R186). -/
  | closes {k : Nat} {a : LineAction} {t : State} :
      s.ctl = .closing k ∨ k = 0 ∧ (s.sess = .faulted ∨ s.sess = .erasing) → closeScript[k]? = some a →
      lineAction a s = .ok t →
      EngineMove s { t with ctl := if k + 1 = closeScript.length then .finish else .closing (k + 1) }
  /-- A pass starts (R241, R248). -/
  | startsPass {verify : Bool} : s.ctl = .startPass verify → passMayStart verify s = true →
      EngineMove s { startPass verify s with ctl := .startPage verify }
  /-- The image is exhausted (R242, R249). -/
  | exhausts {verify : Bool} : s.ctl = .startPage verify → nextChunk s.src = [] →
      EngineMove s { srcRead s with ctl := afterPass verify (srcRead s) }
  /-- `ABORT` is sampled high (R256). -/
  | aborts {verify : Bool} : s.ctl = .startPage verify → nextChunk s.src ≠ [] → s.abort = true →
      EngineMove s (raiseAbort (srcRead s))
  /-- A page is begun (R243, R249). -/
  | beginsPage {verify : Bool} : s.ctl = .startPage verify → nextChunk s.src ≠ [] → s.abort = false →
      EngineMove s { beginPage verify s with ctl := .command (if verify then .readSetup else .writeSetup) }
  /-- A page is done (R244, R250). -/
  | finishesPage {verify : Bool} : s.ctl = .finishPage verify →
      EngineMove s { finishPage verify s with ctl := .startPage verify }
  /-- The operation ends (R258). -/
  | finishes : s.ctl = .finish → EngineMove s (finish s)

/-- The end of the step that is due, with what the sequence adds to it. -/
theorem EngineMove.of_commandEnd {st : StepId} {f : Flow} {s u : State} (hc : s.ctl = .command st)
    (ended : CommandEnd (ackLen st) st s f) (h : f.outcome = .next u) : EngineMove s (retireStep st u) := by
  cases ended <;> cases h
  case acknowledged underway =>
    rw [retireStep_here st u (by cases underway; exact hc)]
    exact .advances hc underway
  case failed reason named underway =>
    rw [retireStep_moved st _ (by simp)]
    exact .fails reason hc named underway
  case reset mem underway =>
    rw [retireStep_moved st _ (show Ctl.rest ≠ .command st from nofun)]
    exact .resets hc mem underway

/-- A line action answers a next state only as the action that was done. -/
theorem lineAction_outcome_eq_next {a : LineAction} {s t : State} (h : (lineAction a s).outcome = .next t) :
    lineAction a s = .ok t := by
  have spec := lineAction_spec a s
  cases hl : lineAction a s with
  | ok u => rw [hl] at h; cases h; rfl
  | fault f => rw [hl] at h; cases h
  | fail u | reset u | refused r => simp only [hl] at spec

theorem enterAction_engineMove {k : Nat} {s t : State} (hc : s.ctl = .entering k)
    (h : enterAction k s = .next t) : EngineMove s t := by
  unfold enterAction at h
  split at h
  · cases h
  · split at h
    · cases h
    · obtain ⟨u, hu, rfl⟩ := mapNext_eq_next_iff.mp h
      exact .enters hc ‹_› (lineAction_outcome_eq_next hu)

theorem closeAction_engineMove {k : Nat} {s t : State}
    (hc : s.ctl = .closing k ∨ k = 0 ∧ (s.sess = .faulted ∨ s.sess = .erasing))
    (h : closeAction k s = .next t) : EngineMove s t := by
  unfold closeAction at h
  split at h
  · cases h
  · split at h
    · cases h
    · obtain ⟨u, hu, rfl⟩ := mapNext_eq_next_iff.mp h
      exact .closes hc ‹_› (lineAction_outcome_eq_next hu)

theorem sequenceAction_engineMove {s t : State} (h : sequenceAction s = .next t) : EngineMove s t := by
  unfold sequenceAction at h
  split at h
  · exact closeAction_engineMove (.inr ⟨rfl, ‹_›⟩) h
  cases hc : s.ctl with
  | rest =>
    simp only [hc] at h
    split at h <;> cases h
    exact .rests hc
  | entering k => simp only [hc] at h; exact enterAction_engineMove hc h
  | command st => simp only [hc] at h; cases h
  | startPass verify =>
    simp only [hc] at h
    split at h <;> cases h
    exact .startsPass hc ‹_›
  | startPage verify =>
    have spec := startPage_spec verify s
    cases hp : startPage verify s with
    | exhausted u =>
      simp only [hc, hp] at h spec
      cases h
      obtain ⟨empty, rfl⟩ := spec
      exact .exhausts hc empty
    | aborted u =>
      simp only [hc, hp] at h spec
      cases h
      obtain ⟨left, high, rfl⟩ := spec
      exact .aborts hc left high
    | page u =>
      simp only [hc, hp] at h spec
      cases h
      obtain ⟨left, low, rfl⟩ := spec
      exact .beginsPage hc left low
  | finishPage verify => simp only [hc] at h; cases h; exact .finishesPage hc
  | closing k => simp only [hc] at h; exact closeAction_engineMove (.inl hc) h
  | finish => simp only [hc] at h; cases h; exact .finishes hc

theorem engineStep_engineMove {s t : State} (h : engineStep s = .next t) : EngineMove s t := by
  unfold engineStep at h
  cases hd : dueStep s with
  | none => simp only [hd] at h; exact sequenceAction_engineMove h
  | some st =>
    simp only [hd] at h
    obtain ⟨u, hu, rfl⟩ := mapNext_eq_next_iff.mp h
    rw [exec_issue] at hu
    exact .of_commandEnd (ctl_of_dueStep hd) (stepFlow_commandEnd st s) hu

/-! ### The step -/

/-- Everything a step can come to (R20, R25): a raise of `START` is accepted, another agent moves, the engine
is reset between two actions, or the engine takes its turn, with the schedule's mark for it spent. -/
inductive Stepped (s : State) : State → Prop
  | accepted {later : List EnvMove} : s.env = .start true :: later → s.start = false → s.busy = false →
      s.ctl = .rest →
      Stepped s { accept (driveStart true { s with env := later }) with ctl := .entering 0 }
  | moved {m : EnvMove} {later : List EnvMove} {t : State} : s.env = m :: later →
      otherMove m { s with env := later } = .on t → OthersMoved s t → Stepped s t
  | reset {later : List EnvMove} : s.env = .reset :: later → Stepped s (engineReset { s with env := later })
  | engine {env : List EnvMove} {t : State} : env ⊆ s.env → EngineMove { s with env := env } t → Stepped s t

/-- The engine's turn differs from the state by the schedule only. -/
theorem engineTurn_exists_eq (s : State) : ∃ env, engineTurn s = { s with env := env } ∧ env ⊆ s.env := by
  refine ⟨(engineTurn s).env, ?_, (engineTurn_historyGrows s).env⟩
  unfold engineTurn
  split
  · rfl
  · split <;> rfl

theorem otherAction_stepped {m : EnvMove} {later : List EnvMove} {s t : State} (he : s.env = m :: later)
    (h : otherAction m { s with env := later } = .next t) : Stepped s t := by
  cases ha : startAccepted m { s with env := later } with
  | true =>
    obtain ⟨rfl, hs, hb, hc⟩ := startAccepted_spec m _ ha
    rw [otherAction_accepted _ hs hb hc] at h
    cases h
    exact .accepted he hs hb hc
  | false =>
    rw [otherAction_other m _ ha] at h
    have spec := otherMove_spec m { s with env := later }
    cases hm : otherMove m { s with env := later } with
    | on u =>
      simp only [hm] at h spec
      cases h
      exact .moved he hm ((OthersMoved.env s later).trans spec.1)
    | reset u =>
      simp only [hm] at h spec
      cases h
      obtain ⟨rfl, rfl⟩ := spec
      exact .reset he
    | broken => rw [hm] at h; cases h

theorem step_stepped {s t : State} (h : step s = .next t) : Stepped s t := by
  unfold step at h
  cases ht : otherTurn s with
  | none =>
    obtain ⟨env, eq, sub⟩ := engineTurn_exists_eq s
    simp only [ht, eq] at h
    exact .engine sub (engineStep_engineMove h)
  | some turn =>
    obtain ⟨later, he, hs⟩ := otherTurn_eq_some ht
    simp only [ht, hs] at h
    exact otherAction_stepped he h

/-- Where a sequence goes after a step is a change of `SESS` and of control only. -/
theorem afterStep_exists_eq (st : StepId) (s : State) :
    ∃ sess next, afterStep st s = { s with sess := sess, ctl := next } := by
  cases st <;> exact ⟨_, _, rfl⟩

end Sys2Proof.Machine
end

section
/-! PROOF. What steps leave: the frame of a command step (R153, R285), `CONTRACT_VIOL` (R34) and the failure
record (R31, R284). -/

namespace Sys2Proof.Machine

/-! ### The frame of a command step -/

/-- A step that is not judged yet has changed nothing outside its frame. -/
theorem Underway.stepFrame {n : Nat} {st : StepId} {s w : State} (underway : Underway n st s w) :
    stepFrame s w := by
  cases underway with
  | intro tx rxq rxbuf rxLen trace viol start abort src env busy sticky buffer length source =>
    exact ⟨rfl, rfl, rfl, rfl, rfl, rfl, rfl, rfl, rfl, rfl, rfl, rfl, rfl, rfl, rfl, rfl, busy, sticky⟩

theorem Underway.exchangeFrame {n : Nat} {st : StepId} {s w : State} (underway : Underway n st s w)
    (size : s.rxbuf.length = 257) : exchangeFrame n st s w := by
  refine ⟨underway.stepFrame, ?_⟩
  cases underway with
  | intro tx rxq rxbuf rxLen trace viol start abort src env busy sticky buffer length source =>
    exact ⟨rfl, (buffer size).2, .inl rfl, .inl rfl, .inl ⟨rfl, rfl, rfl, rfl⟩⟩

/-- What a failure leaves of its state: all but the record, `SESS` and control (R284). -/
theorem raiseFail_stepFrame (reason : FailReason) (st : StepId) {s w : State} (frame : stepFrame s w) :
    stepFrame s (raiseFail reason st w) := by
  simpa [stepFrame] using frame

/-- The record after a failure: the one that stood there, or the failure's own (R31, R284). -/
theorem raiseFail_record (reason : FailReason) (st : StepId) (s : State) :
    (s.failReason ≠ .none ∧ (raiseFail reason st s).failReason = s.failReason ∧
        (raiseFail reason st s).failPass = s.failPass ∧ (raiseFail reason st s).failStep = s.failStep ∧
        (raiseFail reason st s).failPage = s.failPage) ∨
      (s.failReason = .none ∧ (raiseFail reason st s).failReason = reason ∧
        (raiseFail reason st s).failPass = s.pass ∧ (raiseFail reason st s).failStep = some st) := by
  by_cases clear : s.failReason = .none
  · simp [raiseFail, recordFailure_first _ _ _ _ clear, clear]
  · simp [raiseFail, recordFailure_later _ _ _ _ clear, clear]

theorem Underway.raiseFail_exchangeFrame {n : Nat} {st : StepId} {reason : FailReason} {s w : State}
    (named : reason ≠ .none) (underway : Underway n st s w) (size : s.rxbuf.length = 257) :
    Machine.exchangeFrame n st s (raiseFail reason st w) := by
  have kept := raiseFail_stepFrame reason st underway.stepFrame
  have record := raiseFail_record reason st w
  cases underway with
  | intro tx rxq rxbuf rxLen trace viol start abort src env busy sticky buffer length source =>
    refine ⟨kept, by simp, by simpa using (buffer size).2, ?_, .inr rfl, ?_⟩
    · by_cases setup : s.pass = .setup
      · exact .inr ⟨by simp [setup], setup⟩
      · exact .inl (by simp [setup])
    · obtain ⟨-, same⟩ | ⟨clear, new, newPass, newStep⟩ := record
      · exact .inl same
      · exact .inr ⟨clear, fun none => named (new.symm.trans none), newPass, newStep⟩

/-- Settles O29: short of a reset a command step is acknowledged or failed, and both keep the frame. -/
theorem commandStepsKeepAllOtherState : Obligations.CommandStepsKeepAllOtherState := by
  intro st s t h quiet size
  have ended := stepFlow_commandEnd st s
  rw [exec_issue] at h
  generalize stepFlow st s = f at h ended
  cases ended <;> cases h
  case acknowledged underway => exact underway.exchangeFrame size
  case failed reason named underway => exact underway.raiseFail_exchangeFrame named size
  case reset mem _ => exact absurd mem quiet

/-! ### `CONTRACT_VIOL` -/

theorem EngineMove.contractViol_sticky {s t : State} (move : EngineMove s t) (quiet : noReset s)
    (set : s.contractViol = true) : t.contractViol = true := by
  cases move with
  | @advances st w _ underway =>
    obtain ⟨sess, next, eq⟩ := afterStep_exists_eq st w
    rw [eq]
    cases underway with
    | intro _ _ _ _ _ viol _ _ _ _ _ sticky => exact sticky set
  | fails reason _ _ underway =>
    cases underway with
    | intro _ _ _ _ _ viol _ _ _ _ _ sticky => simpa using sticky set
  | resets _ mem _ => exact absurd mem quiet
  | enters _ _ done | closes _ _ done =>
    obtain ⟨own, rst, mode, sess, pass, st, trace, rfl⟩ := lineAction_exists_eq done
    exact set
  | @beginsPage verify | @finishesPage verify => cases verify <;> exact set
  | aborts => simpa using set
  | rests | startsPass | exhausts | finishes => exact set

/-- Settles O52: of the ways a step can go only a reset clears the flag. -/
theorem contractViolIsSticky : Obligations.ContractViolIsSticky := by
  intro s t h quiet set
  cases step_stepped h with
  | accepted => exact (by simp [set] : (s.contractViol || _) = true)
  | moved _ _ others => exact others.sticky set
  | reset he => exact absurd (by simp [he]) quiet
  | engine sub move => exact move.contractViol_sticky (fun mem => quiet (sub mem)) set

/-! ### The failure record -/

/-- The four `FAIL_` registers of `t` are those of `s`. -/
def sameRecord (s t : State) : Prop :=
  t.failReason = s.failReason ∧ t.failPass = s.failPass ∧ t.failStep = s.failStep ∧ t.failPage = s.failPage

theorem recordFailure_sameRecord {reason : FailReason} {st : Option StepId} {page : Word32} {s : State}
    (recorded : s.failReason ≠ .none) : sameRecord s (recordFailure reason st page s) := by
  rw [recordFailure_later _ _ _ _ recorded]
  exact ⟨rfl, rfl, rfl, rfl⟩

/-- The engine's turn keeps a record that stands (R31). -/
theorem EngineMove.sameRecord {s t : State} (move : EngineMove s t) (quiet : noReset s)
    (recorded : s.failReason ≠ .none) : sameRecord s t := by
  cases move with
  | @advances st w _ underway =>
    obtain ⟨sess, next, eq⟩ := afterStep_exists_eq st w
    rw [eq]
    cases underway
    exact ⟨rfl, rfl, rfl, rfl⟩
  | fails reason _ _ underway =>
    cases underway
    exact recordFailure_sameRecord recorded
  | resets _ mem _ => exact absurd mem quiet
  | enters _ _ done | closes _ _ done =>
    obtain ⟨own, rst, mode, sess, pass, st, trace, rfl⟩ := lineAction_exists_eq done
    exact ⟨rfl, rfl, rfl, rfl⟩
  | @beginsPage verify | @finishesPage verify => cases verify <;> exact ⟨rfl, rfl, rfl, rfl⟩
  | aborts => exact recordFailure_sameRecord (s := srcRead s) recorded
  | rests | startsPass | exhausts | finishes => exact ⟨rfl, rfl, rfl, rfl⟩

/-- At rest the engine's turn does nothing, or forces the close of a session no run leaves open there; neither
touches a result register (R260). -/
theorem EngineMove.result_at_rest {s t : State} (move : EngineMove s t) (rest : s.ctl = .rest) :
    result t = result s := by
  cases move with
  | rests => rfl
  | closes _ _ done =>
    obtain ⟨own, rst, mode, sess, pass, st, trace, rfl⟩ := lineAction_exists_eq done
    rfl
  | advances hc | fails _ hc | resets hc | enters hc | startsPass hc | exhausts hc | aborts hc | beginsPage hc
  | finishesPage hc | finishes hc => rw [rest] at hc; cases hc

/-- Settles O53: an accepted `START` and a reset are excluded, and every other way a step can go keeps the
record. -/
theorem firstFailureStaysOnRecord : Obligations.FirstFailureStaysOnRecord := by
  intro s t h quiet unaccepted
  cases step_stepped h with
  | accepted he hs hb hc => exact absurd ⟨hc, hb, hs, _, he⟩ unaccepted
  | moved _ _ others =>
    obtain ⟨rxq, viol, start, abort, src, env, rfl, -⟩ := others.exists_eq
    exact ⟨fun _ => ⟨rfl, rfl, rfl, rfl⟩, fun _ => rfl⟩
  | reset he => exact absurd (by simp [he]) quiet
  | engine sub move =>
    exact ⟨fun recorded => move.sameRecord (fun mem => quiet (sub mem)) recorded,
      fun rest => move.result_at_rest rest⟩

end Sys2Proof.Machine
end

section
/-! PROOF. The address unit in numbers (20_memory.md R63, R64; 40_frame_codec.md R136): `val32` and `be32` are
inverse, and `incrementAddress` goes on to the next page's address. -/

namespace Sys2Proof.Machine

/-- The value of an address, its first byte the most significant (R10). -/
theorem toNat_val32 (a : FlashAddress) :
    (val32 a).toNat = 2 ^ 24 * a.a0.toNat + 2 ^ 16 * a.a1.toNat + 2 ^ 8 * a.a2.toNat + a.a3.toNat := by
  have h1 := a.a1.isLt
  have h2 := a.a2.isLt
  have h3 := a.a3.isLt
  simp only [val32, BitVec.toNat_append]
  rw [← Nat.shiftLeft_add_eq_or_of_lt h1, ← Nat.shiftLeft_add_eq_or_of_lt h2, ← Nat.shiftLeft_add_eq_or_of_lt h3]
  simp only [Nat.shiftLeft_eq]
  omega

/-- `val32` undoes `be32` (R10). -/
@[simp] theorem val32_be32 (v : Word32) : val32 (be32 v) = v := by
  apply BitVec.eq_of_toNat_eq
  have hv := v.isLt
  simp only [toNat_val32, be32, BitVec.extractLsb'_toNat, Nat.shiftRight_eq_div_pow]
  omega

/-- An address is given by its value. -/
theorem val32_inj {a b : FlashAddress} (h : val32 a = val32 b) : a = b := by
  have value := congrArg BitVec.toNat h
  simp only [toNat_val32] at value
  obtain ⟨a0, a1, a2, a3⟩ := a
  obtain ⟨b0, b1, b2, b3⟩ := b
  simp only [FlashAddress.mk.injEq, BitVec.toNat_inj.symm]
  dsimp only at value
  have := a0.isLt; have := a1.isLt; have := a2.isLt; have := a3.isLt
  have := b0.isLt; have := b1.isLt; have := b2.isLt; have := b3.isLt
  omega

/-- `be32` undoes `val32` (R10). -/
@[simp] theorem be32_val32 (a : FlashAddress) : be32 (val32 a) = a := val32_inj (val32_be32 _)

/-- The byte adder adds 256 modulo `2^32` (R136, R137). -/
theorem val32_incrementAddress (a : FlashAddress) : val32 (incrementAddress a) = val32 a + 256 := by
  apply BitVec.eq_of_toNat_eq
  have h0 := a.a0.isLt; have h1 := a.a1.isLt; have h2 := a.a2.isLt; have h3 := a.a3.isLt
  rw [BitVec.toNat_add, toNat_val32, toNat_val32]
  unfold incrementAddress
  by_cases carry2 : a.a2 + 1 = 0
  · by_cases carry1 : a.a1 + 1 = 0
    · simp only [carry2, carry1, if_true]
      bv_omega
    · simp only [carry2, carry1, if_true, if_false]
      bv_omega
  · simp only [carry2, if_false]
    bv_omega

/-- From the address of page `p` the unit goes on to that of page `p + 1` (R63, R244). -/
theorem incrementAddress_pageAddress (base : Word32) (p : Nat) :
    incrementAddress (pageAddress base p) = pageAddress base (p + 1) := by
  apply val32_inj
  rw [val32_incrementAddress, pageAddress, pageAddress, val32_be32, val32_be32, Nat.mul_succ, BitVec.ofNat_add,
    BitVec.add_assoc]
  rfl

end Sys2Proof.Machine
end

section
/-! PROOF. The invariants of the registers and of the page (10_state.md R21 to R23, R32, R42;
44_transfer_orchestrator.md R242 to R250): every step keeps them, and reset meets the three invariants. -/

namespace Sys2Proof.Machine

/-! ### Sizes and source -/

/-- `PBUF` and `RXBUF` have their sizes and `CHUNKLEN` and `RXLEN` are in range (R22, R23). -/
def buffersOk (s : State) : Prop :=
  s.pbuf.length = 256 ∧ s.rxbuf.length = 257 ∧ s.chunkLen.toNat ≤ 256 ∧ s.rxLen.toNat ≤ 257

theorem shape_iff (s : State) : Shape s ↔ buffersOk s ∧ sourceOk s.src := by
  simp only [Shape, buffersOk, sourceOk, and_assoc]

theorem buffersOk_reset : buffersOk State.reset :=
  ⟨List.length_replicate, List.length_replicate, Nat.zero_le _, Nat.zero_le _⟩

theorem Underway.shape {n : Nat} {st : StepId} {s w : State} (underway : Underway n st s w) (hn : n ≤ 257)
    (shape : Shape s) : Shape w := by
  rw [shape_iff] at shape ⊢
  obtain ⟨⟨pbuf, rxbuf, chunk, len⟩, src⟩ := shape
  cases underway with
  | intro _ _ _ _ _ _ _ _ _ _ _ _ buffer length source =>
    refine ⟨⟨pbuf, (buffer rxbuf).1, chunk, ?_⟩, source src⟩
    obtain rfl | rfl := length
    · exact len
    · exact (Nat.mod_le _ _).trans hn

/-- A page start reads on inside the image and fills `PBUF` with a chunk and its padding (R42, R243). -/
theorem beginPage_shape (verify : Bool) {s : State} (shape : Shape s) : Shape (beginPage verify s) := by
  have chunk := nextChunk_length s.src
  have short : (nextChunk s.src).length ≤ 256 := by omega
  obtain ⟨pbuf, rxbuf, chunkLen, rxLen, pos, size⟩ := shape
  have inside := srcRead_pos_le s pos
  cases verify with
  | true => exact ⟨pbuf, rxbuf, chunkLen, rxLen, inside, size⟩
  | false => exact ⟨loadPage_length _ (srcRead s) short, rxbuf, (Nat.mod_le _ _).trans short, rxLen,
      inside, size⟩

theorem engineReset_shape {s : State} (ok : sourceOk s.src) : Shape (engineReset s) :=
  (shape_iff _).mpr ⟨buffersOk_reset, ok⟩

theorem EngineMove.shape {s t : State} (move : EngineMove s t) (shape : Shape s) : Shape t := by
  obtain ⟨buffers, source⟩ := (shape_iff s).mp shape
  have size := source.2
  cases move with
  | @advances st w _ underway =>
    obtain ⟨sess, next, eq⟩ := afterStep_exists_eq st w
    rw [eq]
    exact underway.shape (ackLen_bounds st).2 shape
  | @fails st w reason _ _ underway => simpa [Shape] using underway.shape (ackLen_bounds st).2 shape
  | @resets st w _ _ underway =>
    exact engineReset_shape ((shape_iff w).mp (underway.shape (ackLen_bounds st).2 shape)).2
  | enters _ _ done | closes _ _ done =>
    obtain ⟨own, rst, mode, sess, pass, st, trace, rfl⟩ := lineAction_exists_eq done
    exact shape
  | startsPass => exact (shape_iff _).mpr ⟨buffers, Nat.zero_le _, size⟩
  | exhausts => exact (shape_iff _).mpr ⟨buffers, srcRead_pos_le s source.1, size⟩
  | aborts =>
    have read : Shape (srcRead s) := (shape_iff _).mpr ⟨buffers, srcRead_pos_le s source.1, size⟩
    simpa [Shape] using read
  | @beginsPage verify => exact beginPage_shape verify shape
  | @finishesPage verify => cases verify <;> exact shape
  | rests | finishes => exact shape

/-- Settles O56: a case split over what a step can do. -/
theorem stepsKeepTheShape : Obligations.StepsKeepTheShape := by
  intro s t shape h
  obtain ⟨buffers, source⟩ := (shape_iff s).mp shape
  cases step_stepped h with
  | accepted => exact shape
  | @moved m later _ he hm others =>
    have ok : sourceOk t.src :=
      otherMove_sourceOk (m := m) (s := { s with env := later }) (by rw [hm]; rfl) source
    obtain ⟨rxq, viol, start, abort, src, env, rfl, -⟩ := others.exists_eq
    exact (shape_iff _).mpr ⟨buffers, ok⟩
  | reset => exact engineReset_shape source
  | engine _ move => exact move.shape shape

/-! ### The page -/

/-- Everywhere but at rest an operation runs (R33). -/
theorem busy_of_sequenceInv {s : State} (inv : SequenceInv s) (running : s.ctl ≠ .rest) : s.busy = true := by
  obtain ⟨position, -⟩ := inv
  unfold SequenceAt at position
  split at position
  · exact absurd ‹_› running
  all_goals simp_all [inBootloader]

/-- The next step of a sequence belongs to the same page, or to none. -/
theorem pageInv_afterStep {n : Nat} {st : StepId} {s w : State} (hc : s.ctl = .command st)
    (busy : s.busy = true) (underway : Underway n st s w) (inv : PageInv s) : PageInv (afterStep st w) := by
  simp only [PageInv, hc] at inv
  cases underway with
  | intro _ _ _ _ _ _ _ _ _ _ same =>
    cases same busy
    cases st <;> exact inv

/-- A pass starts at page 0 with no page of it counted (R241, R248). -/
theorem betweenPages_startPass (verify : Bool) {s : State}
    (clear : if verify then s.wAtt = s.wOk ∧ s.vAtt = 0 ∧ s.vOk = 0 else countersClear s) :
    betweenPages verify (startPass verify s) := by
  refine ⟨?_, (Nat.zero_min _).symm, ?_⟩
  · exact congrArg be32 (BitVec.add_zero _).symm
  · cases verify with
    | false =>
      obtain ⟨hwAtt, hwOk, hvAtt, hvOk⟩ := clear
      exact ⟨hvAtt, hvOk, hwOk, hwAtt⟩
    | true =>
      obtain ⟨hw, hvAtt, hvOk⟩ := clear
      exact ⟨hw, hvOk, hvAtt⟩

/-- The page begun is `PAGEIDX`: its bytes are read, and in the write pass fetched and padded (R243, R249). -/
theorem insidePage_beginPage {verify : Bool} {s : State} (between : betweenPages verify s)
    (left : nextChunk s.src ≠ []) : insidePage verify (beginPage verify s) := by
  obtain ⟨address, pos, counters⟩ := between
  have present : 256 * s.pageIdx.toNat < s.src.bytes.length := by
    rw [ne_eq, nextChunk_eq_nil] at left
    omega
  have read : s.src.pos + (nextChunk s.src).length =
      min (256 * (s.pageIdx.toNat + 1)) s.src.bytes.length := by
    rw [nextChunk_length]
    omega
  have chunk : nextChunk s.src = (s.src.bytes.drop (256 * s.pageIdx.toNat)).take 256 := by
    rw [nextChunk, pos, Nat.min_eq_left present.le]
  have length : (nextChunk s.src).length = min 256 (s.src.bytes.length - 256 * s.pageIdx.toNat) := by
    rw [nextChunk_length, pos, Nat.min_eq_left present.le]
  cases verify with
  | true =>
    obtain ⟨hw, hvOk, hvAtt⟩ := counters
    exact ⟨address, present, read, ⟨hw, hvOk, by simp [beginPage, hvAtt]⟩, nofun⟩
  | false =>
    obtain ⟨hvAtt, hvOk, hwOk, hwAtt⟩ := counters
    refine ⟨address, present, read, ⟨hvAtt, hvOk, hwOk, by simp [beginPage, loadPage, hwAtt]⟩, fun _ => ⟨?_, ?_⟩⟩
    · change nextChunk s.src ++ zeros (256 - (nextChunk s.src).length) = _
      rw [chunk]
      rfl
    · change (BitVec.ofNat 9 (nextChunk s.src).length).toNat = _
      rw [BitVec.toNat_ofNat, length]
      exact Nat.mod_eq_of_lt (by omega)

/-- After the page's third acknowledgment address, index and counts are those of the next page (R244, R250). -/
theorem betweenPages_finishPage {verify : Bool} {s : State} (inside : insidePage verify s)
    (size : s.src.bytes.length < 2 ^ 32) : betweenPages verify (finishPage verify s) := by
  obtain ⟨address, present, pos, counters, -⟩ := inside
  have next : (s.pageIdx + 1).toNat = s.pageIdx.toNat + 1 := by bv_omega
  have advanced : incrementAddress s.addr = pageAddress s.cfg.base (s.pageIdx + 1).toNat := by
    rw [address, incrementAddress_pageAddress, next]
  have read : s.src.pos = min (256 * (s.pageIdx + 1).toNat) s.src.bytes.length := by rw [pos, next]
  cases verify with
  | true =>
    obtain ⟨hw, hvOk, hvAtt⟩ := counters
    exact ⟨advanced, read, hw, by simp [finishPage, hvOk], by simpa [finishPage] using hvAtt⟩
  | false =>
    obtain ⟨hvAtt, hvOk, hwOk, hwAtt⟩ := counters
    exact ⟨advanced, read, hvAtt, hvOk, by simp [finishPage, hwOk], by simpa [finishPage] using hwAtt⟩

/-- When the image is exhausted the verify pass follows with no page of it counted, or the close (R258). -/
theorem pageInv_exhausted {verify : Bool} {s : State} (between : betweenPages verify s) :
    PageInv { srcRead s with ctl := afterPass verify (srcRead s) } := by
  unfold afterPass
  split
  · rename_i verifyNext
    obtain ⟨rfl, -⟩ := verifyNext
    obtain ⟨-, -, hvAtt, hvOk, hwOk, hwAtt⟩ := between
    exact ⟨by simpa [hwOk] using hwAtt, hvAtt, hvOk⟩
  · trivial

theorem EngineMove.pageInv {s t : State} (move : EngineMove s t) (shape : Shape s) (seq : SequenceInv s)
    (inv : PageInv s) : PageInv t := by
  cases move with
  | @advances st w hc underway =>
    exact pageInv_afterStep hc (busy_of_sequenceInv seq (by simp [hc])) underway inv
  | fails | resets | aborts | finishes => trivial
  | rests => exact inv
  | @enters k _ _ hc _ done =>
    obtain ⟨own, rst, mode, sess, pass, st, trace, rfl⟩ := lineAction_exists_eq done
    simp only [PageInv, hc] at inv
    by_cases last : k + 1 = enterScript.length <;> simp only [last, if_true, if_false] <;> exact inv
  | @closes k _ _ _ _ done =>
    by_cases last : k + 1 = closeScript.length <;> simp only [last, if_true, if_false] <;> trivial
  | @startsPass verify hc _ =>
    simp only [PageInv, hc] at inv
    exact betweenPages_startPass verify (by cases verify <;> exact inv)
  | @exhausts verify hc _ =>
    simp only [PageInv, hc] at inv
    exact pageInv_exhausted inv
  | @beginsPage verify hc left _ =>
    simp only [PageInv, hc] at inv
    have inside := insidePage_beginPage inv left
    cases verify <;> exact inside
  | @finishesPage verify hc =>
    simp only [PageInv, hc] at inv
    obtain ⟨-, -, -, -, -, size⟩ := shape
    exact betweenPages_finishPage inv size

/-- Settles O58: at rest the invariant asks nothing; elsewhere the engine is busy, the other agents leave its
source, and the engine's turn keeps the invariant. -/
theorem stepsKeepThePage : Obligations.StepsKeepThePage := by
  intro s t shape seq inv h
  cases step_stepped h with
  | accepted => exact ⟨rfl, rfl, rfl, rfl⟩
  | moved _ _ others =>
    obtain ⟨rxq, viol, start, abort, src, env, rfl, same, -⟩ := others.exists_eq
    by_cases rest : s.ctl = .rest
    · simp [PageInv, rest]
    · cases same (busy_of_sequenceInv seq rest)
      exact inv
  | reset => trivial
  | engine _ move => exact move.pageInv shape seq inv

/-- Settles O59. -/
theorem resetMeetsTheInvariants : Obligations.ResetMeetsTheInvariants :=
  ⟨(shape_iff _).mpr ⟨buffersOk_reset, Nat.zero_le _, by decide⟩,
    ⟨⟨rfl, rfl, rfl, rfl, rfl, rfl, rfl⟩, nofun⟩, trivial⟩

end Sys2Proof.Machine
end

section
/-! PROOF. The frames of the request steps read back (30_encoding.md R90 to R100): what a step's reader answers
and that it reads the frame of every well-formed instruction of its step. -/

namespace Sys2Proof

/-! ### Checksums -/

theorem Machine.xorAll_append (bs cs : List Byte) :
    Machine.xorAll (bs ++ cs) = Machine.xorAll bs ^^^ Machine.xorAll cs := by
  induction bs with
  | nil => exact (BitVec.zero_xor).symm
  | cons b bs ih =>
    change b ^^^ Machine.xorAll (bs ++ cs) = b ^^^ Machine.xorAll bs ^^^ Machine.xorAll cs
    rw [ih, BitVec.xor_assoc]

/-- A sequence followed by its checksum has checksum 0 (R94, R95). -/
theorem Machine.xorAll_checked (bs : List Byte) : Machine.xorAll (bs ++ [Machine.xorAll bs]) = 0 := by
  rw [Machine.xorAll_append]
  change Machine.xorAll bs ^^^ (Machine.xorAll bs ^^^ 0#8) = 0#8
  rw [BitVec.xor_zero, BitVec.xor_self]

/-! ### Readers -/

theorem readAddressFrame_buildAddressFrame (a : FlashAddress) :
    readAddressFrame (Machine.buildAddressFrame a) = some a := by
  simp [readAddressFrame, Machine.buildAddressFrame]

theorem readPageFrame_page {payload : List Byte} (h : payload.length = 256) :
    readPageFrame (0xFF :: payload ++ [Machine.xorAll (0xFF :: payload)]) = some payload := by
  have checked := Machine.xorAll_checked (0xFF :: payload)
  rw [List.cons_append] at checked ⊢
  have length : (payload ++ [Machine.xorAll (0xFF :: payload)]).length = pageSize + 1 := by simp [h]
  change (if _ then some ((payload ++ [_]).take pageSize) else none) = some payload
  rw [if_pos ⟨rfl, length, checked⟩, List.take_left' h]

/-- A page frame carries a full page (R95, R212). -/
theorem length_of_readPageFrame {bs payload : List Byte} (h : readPageFrame bs = some payload) :
    payload.length = 256 := by
  unfold readPageFrame at h
  split at h
  · cases h
  · split at h <;> cases h
    rename_i checks
    obtain ⟨-, length, -⟩ := checks
    rw [List.length_take, length]
    rfl

/-- What the reader of a step answers is a well-formed instruction of that step (R100). -/
theorem readStep_wf {w : Wire} {st : StepId} {bs : List Byte} {i : Instr} (h : readStep w st bs = some i) :
    i.wf = true ∧ i.stepId = some st := by
  cases st with
  | writeAddress | readAddress =>
    obtain ⟨a, -, rfl⟩ := Option.map_eq_some_iff.mp h
    exact ⟨rfl, rfl⟩
  | writePayload =>
    obtain ⟨payload, read, rfl⟩ := Option.map_eq_some_iff.mp h
    exact ⟨decide_eq_true (length_of_readPageFrame read), rfl⟩
  | sync | get | getVersion | getId | eraseCmd | eraseParam | extEraseCmd | extEraseParam | writeSetup
  | readSetup | readLength =>
    simp only [readStep] at h
    split at h <;> cases h
    exact ⟨rfl, rfl⟩

/-- The reader of a step reads the frame of every well-formed instruction of the step (R100). -/
theorem readStep_encode {w : Wire} {i : Instr} {st : StepId} (wf : i.wf = true) (h : i.stepId = some st) :
    ∃ bs, encode w i = some bs ∧ readStep w st bs = some i := by
  cases i with
  | sync | get | getVersion | getId | eraseCmd | eraseParam | extEraseCmd | extEraseParam | writeSetup
  | readSetup | readLength =>
    cases h
    exact ⟨_, rfl, if_pos rfl⟩
  | writeAddress a =>
    cases h
    exact ⟨_, rfl, congrArg (Option.map Instr.writeAddress) (readAddressFrame_buildAddressFrame a)⟩
  | readAddress a =>
    cases h
    exact ⟨_, rfl, congrArg (Option.map Instr.readAddress) (readAddressFrame_buildAddressFrame a)⟩
  | writePayload payload =>
    cases h
    have length : payload.length = 256 := of_decide_eq_true wf
    exact ⟨_, Machine.buildDataBlockFrame_page payload length,
      congrArg (Option.map Instr.writePayload) (readPageFrame_page length)⟩
  | buildCommand | buildAddressFrame | buildDataBlockFrame | incrementAddress | send | waitForBytes | readBytes
  | exchange | enter | openSession | closeSession | writePage | readPage | writeImage | verifyImage
  | flashAndVerify => cases h

/-- A sequence decodes only as one of the steps it is read against reads it. -/
theorem exists_readStep_of_decode {w : Wire} {steps : List StepId} {bs : List Byte} {i : Instr}
    (h : decode w steps bs = .ok i) : ∃ st ∈ steps, readStep w st bs = some i := by
  unfold decode at h
  split at h <;> cases h
  exact List.exists_of_findSome?_eq_some ‹_›

theorem decode_singleton {w : Wire} {st : StepId} {bs : List Byte} {i : Instr}
    (h : readStep w st bs = some i) : decode w [st] bs = .ok i := by
  simp [decode, h]

theorem wf_of_decodeTableWord {nbits w : Nat} {i : Instr} (h : decodeTableWord nbits w = some i) :
    i.wf = true := by
  unfold decodeTableWord at h
  split at h <;> cases h
  obtain ⟨st, -, read⟩ := exists_readStep_of_decode ‹_›
  exact (readStep_wf read).1

end Sys2Proof
end

section
/-! PROOF. Single steps (10_state.md R25, R34, R50; 60_exceptions.md R287, R321): reset, the instruction a step
runs, the refused request and the payload no block can hold. -/

namespace Sys2Proof.Machine

/-- Settles O1. -/
theorem resetLeavesTheEngineIdle : Obligations.ResetLeavesTheEngineIdle := by
  refine ⟨rfl, rfl, rfl, rfl, rfl, rfl, rfl, rfl, rfl, rfl, rfl, rfl, rfl, rfl, rfl, rfl, rfl, rfl, rfl, rfl, ?_⟩
  rfl

/-! ### The instruction a step runs -/

/-- On the engine's turn with a step due, the machine's step is the instruction of that step (R25). -/
theorem step_of_due {s : State} {st : StepId} (turn : otherTurn s = none) (due : dueStep (engineTurn s) = some st) :
    step s = mapNext (retireStep st) (exec (issue st (engineTurn s)) (engineTurn s)) := by
  simp only [step, turn, engineStep, due]

theorem dueStep_command {s : State} {st : StepId} (hc : s.ctl = .command st) (hs : s.sess = stepSession st) :
    dueStep s = some st := by
  have inSession : ¬(s.sess = .faulted ∨ s.sess = .erasing) := by rw [hs]; cases st <;> decide
  simp only [dueStep, if_neg inSession, hc]

theorem issue_wf {st : StepId} {s : State} (h : s.pbuf.length = 256) : (issue st s).wf = true := by
  cases st with
  | writePayload => exact decide_eq_true h
  | _ => rfl

theorem issue_stepId (st : StepId) (s : State) : (issue st s).stepId = some st := by cases st <;> rfl

/-- Where the operand registers hold an instruction's operand, the sequencer issues that instruction. -/
theorem issue_withOperand {s t : State} {i : Instr} {st : StepId} (h : i.stepId = some st)
    (haddr : t.addr = (s.withOperand i).addr) (hpbuf : t.pbuf = (s.withOperand i).pbuf) : issue st t = i := by
  cases i with
  | writeAddress a => cases h; exact congrArg Instr.writeAddress haddr
  | readAddress a => cases h; exact congrArg Instr.readAddress haddr
  | writePayload p => cases h; exact congrArg Instr.writePayload hpbuf
  | sync | get | getVersion | getId | eraseCmd | eraseParam | extEraseCmd | extEraseParam | writeSetup
  | readSetup | readLength => cases h; rfl
  | _ => cases h

/-- Settles O2: the placed word is the step that is due, and its operand stands in the registers. -/
theorem stepRunsThePlacedInstruction : Obligations.StepRunsThePlacedInstruction := by
  intro s nbits w i st decoded hst
  refine ⟨wf_of_decodeTableWord decoded, ?_⟩
  have placed : s.withFetchWord nbits w = { s.withOperand i with
      sess := stepSession st, pass := stepPass st, ctl := .command st, env := .engine :: s.env } := by
    simp only [State.withFetchWord, decoded, hst]
  have turn : otherTurn (s.withFetchWord nbits w) = none := by rw [placed]; rfl
  have due : dueStep (engineTurn (s.withFetchWord nbits w)) = some st := by
    rw [placed]
    exact dueStep_command rfl rfl
  rw [step_of_due turn due, issue_withOperand (s := s) hst (by rw [placed]; rfl) (by rw [placed]; rfl)]

/-- Settles O3: the issued instruction is a well-formed one of its step, so its frame reads back. -/
theorem stepRunsTheDueInstruction : Obligations.StepRunsTheDueInstruction := by
  intro s st turn due size
  obtain ⟨bs, sent, read⟩ := readStep_encode (w := s.cfg.wire) (issue_wf size) (issue_stepId st (engineTurn s))
  exact ⟨bs, sent, decode_singleton read, step_of_due turn due⟩

/-! ### Refusals and reset -/

/-- With another agent's move at the head of the schedule the step is that move (R20). -/
theorem step_of_other {s : State} {m : EnvMove} {later : List EnvMove} (he : s.env = m :: later)
    (other : m ≠ .engine) : step s = otherAction m { s with env := later } := by
  simp only [step, otherTurn, he, if_neg other]

/-- No data block holds 0 or more than 256 bytes (R135). -/
theorem buildDataBlockFrame_badSize {payload : List Byte} (h : payload.length = 0 ∨ 256 < payload.length) :
    buildDataBlockFrame payload = none := if_pos h

/-- Settles O31. -/
theorem writePayloadOfABadSizeSendsNothing : Obligations.WritePayloadOfABadSizeSendsNothing := by
  intro payload s badSize sess pass clear
  have refused : payloadStep payload .writePayload s =
      .fail (raiseFail .invalidPayloadSize .writePayload { s with step := some .writePayload }) := by
    simp only [payloadStep, buildDataBlockFrame_badSize badSize]
    exact if_pos sess
  change (payloadStep payload .writePayload s).outcome = _
  rw [refused]
  simp [Flow.outcome, raiseFail, failedPage, recordFailure_first, clear, pass]

/-- Settles O46: the request is judged by `BUSY` alone, as an instruction and as a raise. -/
theorem secondStartIsIgnored : Obligations.SecondStartIsIgnored := by
  intro s busy
  refine ⟨?_, fun later he low => ?_⟩
  · change (flowFlashAndVerify s).outcome = _
    rw [flowFlashAndVerify, if_pos busy]
    rfl
  · rw [step_of_other he nofun, otherAction_other _ _ (by simp [startAccepted, busy])]
    simp [otherMove, Moved.outcome, driveStart, low, busy]

/-- Settles O54. -/
theorem resetRunsNoCloseSequence : Obligations.ResetRunsNoCloseSequence := by
  intro s later he
  refine ⟨engineReset { s with env := later }, ?_, ⟨rfl, rfl, rfl, rfl⟩, rfl, rfl, rfl, rfl, rfl, rfl, rfl, rfl, rfl⟩
  rw [step_of_other he nofun, otherAction_other _ _ rfl]
  rfl

end Sys2Proof.Machine
end

section
/-! PROOF. The host's packed registers (10_state.md R37): the bits of `STATUS`, and the three fields of
`SEQSTATE` and `FAILINFO`. -/

namespace Sys2Proof.Machine

/-- A flag at bit `n` is that bit and no other. -/
theorem getLsbD_bitAt (b : Bool) (n i : Nat) :
    (bitAt b n).getLsbD i = (b && (decide (n < 32) && decide (n = i))) := by
  cases b with
  | false => exact BitVec.getLsbD_zero
  | true => exact BitVec.getLsbD_twoPow n i

/-- Three fields of 3, 2 and 4 bits, packed from bit 0 up, as a number. -/
theorem toNat_packed {a b c : Word32} (ha : a < 8) (hb : b < 4) (hc : c < 16) :
    (a ||| b <<< 3 ||| c <<< 5).toNat = 2 ^ 5 * c.toNat + (2 ^ 3 * b.toNat + a.toNat) := by
  have ha' : a.toNat < 2 ^ 3 := ha
  have hb' : b.toNat < 4 := hb
  have hc' : c.toNat < 16 := hc
  have low : (a ||| b <<< 3).toNat = 2 ^ 3 * b.toNat + a.toNat := by
    rw [BitVec.toNat_or, BitVec.toNat_shiftLeft, Nat.mod_eq_of_lt (by omega), Nat.or_comm,
      ← Nat.shiftLeft_add_eq_or_of_lt ha', Nat.shiftLeft_eq, Nat.mul_comm]
  rw [BitVec.toNat_or, low, BitVec.toNat_shiftLeft, Nat.mod_eq_of_lt (by omega), Nat.or_comm,
    ← Nat.shiftLeft_add_eq_or_of_lt (by omega), Nat.shiftLeft_eq, Nat.mul_comm]

/-- Packed fields are read back at their bits, and nothing stands above them. -/
theorem packed_fields {a b c : Word32} (ha : a < 8) (hb : b < 4) (hc : c < 16) :
    (a ||| b <<< 3 ||| c <<< 5) &&& 7 = a ∧ ((a ||| b <<< 3 ||| c <<< 5) >>> 3) &&& 3 = b ∧
      ((a ||| b <<< 3 ||| c <<< 5) >>> 5) &&& 15 = c ∧ (a ||| b <<< 3 ||| c <<< 5) >>> 9 = 0 := by
  have packed := toNat_packed ha hb hc
  have ha' : a.toNat < 8 := ha
  have hb' : b.toNat < 4 := hb
  have hc' : c.toNat < 16 := hc
  generalize a ||| b <<< 3 ||| c <<< 5 = word at packed ⊢
  have mask (x k : Nat) : x &&& (2 ^ k - 1) = x % 2 ^ k := Nat.and_two_pow_sub_one_eq_mod x k
  refine ⟨?_, ?_, ?_, ?_⟩ <;> apply BitVec.eq_of_toNat_eq
  · rw [BitVec.toNat_and]
    exact (mask _ 3).trans (by omega)
  · rw [BitVec.toNat_and, BitVec.toNat_ushiftRight, Nat.shiftRight_eq_div_pow]
    exact (mask _ 2).trans (by omega)
  · rw [BitVec.toNat_and, BitVec.toNat_ushiftRight, Nat.shiftRight_eq_div_pow]
    exact (mask _ 4).trans (by omega)
  · rw [BitVec.toNat_ushiftRight, Nat.shiftRight_eq_div_pow]
    exact Nat.div_eq_of_lt (show word.toNat < 2 ^ 9 by omega)

/-- The six flags of `STATUS` at their bits, and nothing above them. -/
theorem statusWord_bits (s : State) :
    (statusWord s).getLsbD 0 = s.busy ∧ (statusWord s).getLsbD 1 = s.resOk ∧
      (statusWord s).getLsbD 2 = s.contractViol ∧ (statusWord s).getLsbD 3 = s.own ∧
      (statusWord s).getLsbD 4 = s.rstLine ∧ (statusWord s).getLsbD 5 = s.modeLine ∧ statusWord s >>> 6 = 0 := by
  have bits (i : Nat) : (statusWord s).getLsbD i = (s.busy && decide (0 = i) || s.resOk && decide (1 = i) ||
      s.contractViol && decide (2 = i) || s.own && decide (3 = i) || s.rstLine && decide (4 = i) ||
      s.modeLine && decide (5 = i)) := by
    simp [statusWord, BitVec.getLsbD_or, getLsbD_bitAt]
  have above : statusWord s >>> 6 = 0 := by
    refine BitVec.eq_of_getLsbD_eq fun i _ => ?_
    rw [BitVec.getLsbD_ushiftRight, bits]
    have other (k : Nat) (hk : k < 6) : decide (k = 6 + i) = false := decide_eq_false (by omega)
    simp [other]
  simp only [bits]
  simp [above]

theorem Sess.code_lt (x : Sess) : x.code < 8 := by cases x <;> decide

theorem Pass.code_lt (x : Pass) : x.code < 4 := by cases x <;> decide

theorem stepCode_lt (x : Option StepId) : stepCode x < 16 := by
  obtain _ | st := x
  · decide
  · cases st <;> decide

theorem FailReason.code_lt (x : FailReason) : x.code < 8 := by cases x <;> decide

/-- Settles O55. -/
theorem hostRegistersArePacked : Obligations.HostRegistersArePacked := by
  intro s
  refine ⟨⟨statusWord s, rfl, statusWord_bits s⟩,
    ⟨seqStateWord s, rfl, packed_fields s.sess.code_lt s.pass.code_lt (stepCode_lt s.step)⟩,
    ⟨failInfoWord s, rfl, packed_fields s.failReason.code_lt s.failPass.code_lt (stepCode_lt s.failStep)⟩,
    rfl, rfl, rfl, rfl, rfl, rfl, rfl, ?_, rfl, rfl, rfl, rfl, rfl⟩
  intro n hn
  match n, hn with
  | n + 10, _ => rfl

end Sys2Proof.Machine
end

section
/-! PROOF. The verify pass with every response queued (43_command_set.md R226, 44_transfer_orchestrator.md R247 to
R251): one page, the loop over all pages, the pass. -/

namespace Sys2Proof.Machine

/-! ### One page -/

/-- A command step whose whole response is queued and begins with `ACK` (R153). -/
theorem commandStep_answered {frame : List Byte} {st : StepId} {s : State} (sess : s.sess = stepSession st)
    (queued : answered (ackLen st) s) : commandStep frame st s = .ok (exchanged frame (ackLen st) st s) := by
  rw [commandStep_inSession frame st s sess]
  exact exchange_answered frame _ st s (ackLen_bounds st).1 queued

/-- The trace of a page read with the bytes `data` (R226). -/
def readPageEvents (w : Wire) (a : FlashAddress) (data : List Byte) : List Event :=
  [.tx (buildCommand w.opcRead), .rx [w.ack], .tx (buildAddressFrame a), .rx [w.ack],
    .tx (pairBytes w.readFullPage), .rx (w.ack :: data)]

/-- The state after `readPage` with the bytes `data` received and `rest` left in the queue (R226). -/
def pageRead (data rest : List Byte) (s : State) : State :=
  { s with
    step := some .readLength
    tx := s.tx ++ readPageBytes s.cfg.wire s.addr
    rxq := rest
    rxbuf := s.cfg.wire.ack :: data
    rxLen := 257
    trace := s.trace ++ readPageEvents s.cfg.wire s.addr data }

/-- `readPage` with three acknowledgments and the page in the queue (R226). -/
theorem flowReadPage_answered {data rest : List Byte} {s : State} (sess : s.sess = .transferring)
    (size : data.length = 256)
    (queue : s.rxq = [s.cfg.wire.ack, s.cfg.wire.ack, s.cfg.wire.ack] ++ data ++ rest) :
    flowReadPage s = .ok (pageRead data rest s) := by
  let setup := exchanged (buildCommand s.cfg.wire.opcRead) 1 .readSetup s
  let addressed := exchanged (buildAddressFrame s.addr) 1 .readAddress setup
  have first : flowReadSetup s = .ok setup := commandStep_answered sess (by simp [answered, ackLen, queue])
  have second : flowReadAddress setup.addr setup = .ok addressed :=
    commandStep_answered sess (by simp [answered, ackLen, setup, exchanged, queue])
  have third : flowReadLength addressed =
      .ok (exchanged (pairBytes s.cfg.wire.readFullPage) 257 .readLength addressed) :=
    commandStep_answered sess (by simp [answered, ackLen, setup, addressed, exchanged, queue, size])
  have response : (s.cfg.wire.ack :: (data ++ rest)).take 257 = s.cfg.wire.ack :: data := by
    rw [List.take_succ_cons, List.take_left' size]
  have remaining : (s.cfg.wire.ack :: (data ++ rest)).drop 257 = rest := by
    rw [List.drop_succ_cons, List.drop_left' size]
  rw [flowReadPage, first]
  change (flowReadAddress setup.addr setup).andThen flowReadLength = _
  rw [second]
  change flowReadLength addressed = _
  rw [third]
  simp [exchanged, addressed, setup, pageRead, queue, response, remaining, readPageBytes, readPageEvents, size,
    buildCommand, buildAddressFrame, pairBytes]

/-! ### Page starts -/

theorem startPage_left {verify : Bool} {s : State} (left : nextChunk s.src ≠ []) (low : s.abort = false) :
    startPage verify s = .page (beginPage verify s) := by
  cases verify <;> simp [startPage, beginPage, left, low, loadPage]

theorem startPage_exhausted {verify : Bool} {s : State} (empty : nextChunk s.src = []) :
    startPage verify s = .exhausted (srcRead s) := by
  simp [startPage, empty]

/-! ### The loop -/

/-- The verify pass stands before page `p` of `image`, `ABORT` low (R63, R248). -/
structure VerifyAt (image : List Byte) (p : Nat) (s : State) : Prop where
  sess : s.sess = .transferring
  abort : s.abort = false
  addr : s.addr = pageAddress s.cfg.base p
  pageIdx : s.pageIdx = BitVec.ofNat 32 p
  src : s.src = ⟨image, min (256 * p) image.length⟩

/-- From `s` to `t` the pages from `p` on were read and came to `pages`: what was sent, presented and counted,
and what stayed (R247 to R251). -/
structure Presented (p : Nat) (pages : List (List Byte)) (s t : State) : Prop where
  tx : t.tx = s.tx ++
    (List.range' p pages.length).flatMap fun q => readPageBytes s.cfg.wire (pageAddress s.cfg.base q)
  outs : pageOuts t.trace = pageOuts s.trace ++ pages.mapIdx fun i d =>
    (BitVec.ofNat 32 (p + i), s.cfg.base + BitVec.ofNat 32 (256 * (p + i)), d)
  vAtt : t.vAtt = s.vAtt + BitVec.ofNat 32 pages.length
  vOk : t.vOk = s.vOk + BitVec.ofNat 32 pages.length
  kept : t.failReason = s.failReason ∧ t.sess = s.sess ∧ t.pass = s.pass ∧ t.cfg = s.cfg ∧ t.pbuf = s.pbuf ∧
    t.chunkLen = s.chunkLen ∧ t.wAtt = s.wAtt ∧ t.wOk = s.wOk

theorem Presented.cons {p : Nat} {page : List Byte} {pages : List (List Byte)} {s t u : State}
    (head : Presented p [page] s t) (tail : Presented (p + 1) pages t u) : Presented p (page :: pages) s u := by
  obtain ⟨fail, sess, pass, cfg, pbuf, chunk, wAtt, wOk⟩ := head.kept
  obtain ⟨fail', sess', pass', cfg', pbuf', chunk', wAtt', wOk'⟩ := tail.kept
  have count : BitVec.ofNat 32 [page].length + BitVec.ofNat 32 pages.length =
      BitVec.ofNat 32 (page :: pages).length := by
    rw [← BitVec.ofNat_add, List.length_cons, Nat.add_comm]
    rfl
  refine ⟨?_, ?_, ?_, ?_, fail'.trans fail, sess'.trans sess, pass'.trans pass, cfg'.trans cfg, pbuf'.trans pbuf,
    chunk'.trans chunk, wAtt'.trans wAtt, wOk'.trans wOk⟩
  · rw [tail.tx, head.tx, cfg]
    simp [List.range'_succ]
  · rw [tail.outs, head.outs, cfg]
    simp [List.mapIdx_cons, Nat.add_assoc, Nat.add_comm 1]
  · rw [tail.vAtt, head.vAtt, BitVec.add_assoc, count]
  · rw [tail.vOk, head.vOk, BitVec.add_assoc, count]

/-- The state after a whole page of the verify pass that came to `data` (R249 to R251). -/
def pagePresented (data rest : List Byte) (s : State) : State :=
  { s with
    step := some .readLength
    src := ⟨s.src.bytes, s.src.pos + (nextChunk s.src).length⟩
    vAtt := s.vAtt + 1
    tx := s.tx ++ readPageBytes s.cfg.wire s.addr
    rxq := rest
    rxbuf := s.cfg.wire.ack :: data
    rxLen := 257
    trace := s.trace ++ [.srcRead (nextChunk s.src)] ++ readPageEvents s.cfg.wire s.addr data ++
      [.pageOut s.pageIdx (val32 s.addr) data]
    vOk := s.vOk + 1
    addr := incrementAddress s.addr
    pageIdx := s.pageIdx + 1 }

/-- A page's start, its three steps and its end come to `pagePresented`. -/
theorem finishPage_pageRead {data rest : List Byte} {s : State} (size : data.length = 256) :
    finishPage true (pageRead data rest (beginPage true s)) = pagePresented data rest s := by
  have presented : ((s.cfg.wire.ack :: data).drop 1).take pageSize = data := List.take_of_length_le size.le
  simp only [finishPage, pageRead, beginPage, pagePresented, if_true, emit, srcRead, presented]

/-- One page: read at its address, presented with the bytes received, and the next one is due (R249 to R251). -/
theorem verifyPage_presents {image : List Byte} {p : Nat} {data rest : List Byte} {s : State}
    (here : VerifyAt image p s) (left : 256 * p < image.length) :
    VerifyAt image (p + 1) (pagePresented data rest s) ∧ Presented p [data] s (pagePresented data rest s) := by
  obtain ⟨sess, abort, addr, pageIdx, src⟩ := here
  refine ⟨⟨sess, abort, ?_, ?_, ?_⟩, ⟨?_, ?_, rfl, rfl, ⟨rfl, rfl, rfl, rfl, rfl, rfl, rfl, rfl⟩⟩⟩
  · exact (congrArg incrementAddress addr).trans (incrementAddress_pageAddress _ p)
  · exact (congrArg (· + 1) pageIdx).trans (BitVec.ofNat_add p 1).symm
  · have chunk := nextChunk_length s.src
    rw [src] at chunk
    simp only [pagePresented, src, chunk, Source.mk.injEq, true_and]
    omega
  · simp [pagePresented, addr]
  · simp [pagePresented, pageOuts, readPageEvents, pageIdx, addr, pageAddress]

/-- What the queue holds for the pages of a verify pass (R226). -/
def pageResponses (w : Wire) (pages : List (List Byte)) : List Byte :=
  pages.flatMap fun d => [w.ack, w.ack, w.ack] ++ d

/-- The loop from page `p` on, with the responses of all pages left in the queue. -/
theorem verifyLoop_presents {image : List Byte} {later : List Byte} (pages : List (List Byte)) {p bound : Nat}
    {s : State} (here : VerifyAt image p s) (count : p + pages.length = pageCount image)
    (enough : pages.length < bound) (sizes : ∀ d ∈ pages, d.length = 256)
    (queue : s.rxq = pageResponses s.cfg.wire pages ++ later) :
    ∃ t, pageLoop true bound s = .ok t ∧ Presented p pages s t ∧ t.rxq = later ∧
      t.src = ⟨image, image.length⟩ := by
  induction pages generalizing p bound s with
  | nil =>
    obtain ⟨bound, rfl⟩ := Nat.exists_eq_succ_of_ne_zero (Nat.ne_of_gt enough)
    have done : image.length ≤ 256 * p := by
      simp only [pageCount, List.length_nil] at count
      omega
    have pos : s.src = ⟨image, image.length⟩ := by rw [here.src, Nat.min_eq_right done]
    have empty : nextChunk s.src = [] := by rw [nextChunk_eq_nil, pos]
    refine ⟨srcRead s, by simp only [pageLoop, startPage_exhausted empty], ⟨?_, ?_, ?_, ?_, ?_⟩, queue, ?_⟩
    · simp
    · simp [pageOuts]
    · exact (BitVec.add_zero _).symm
    · exact (BitVec.add_zero _).symm
    · exact ⟨rfl, rfl, rfl, rfl, rfl, rfl, rfl, rfl⟩
    · rw [srcRead_src, empty, pos]
      rfl
  | cons page pages ih =>
    obtain ⟨bound, rfl⟩ := Nat.exists_eq_succ_of_ne_zero (Nat.ne_of_gt (Nat.zero_lt_of_lt enough))
    have present : 256 * p < image.length := by
      simp only [pageCount, List.length_cons] at count
      omega
    have left : nextChunk s.src ≠ [] := by
      rw [ne_eq, nextChunk_eq_nil, here.src]
      simp only
      omega
    have size := sizes page List.mem_cons_self
    have read := flowReadPage_answered (s := beginPage true s) here.sess size
      (queue.trans (List.append_assoc ..))
    obtain ⟨next, head⟩ := verifyPage_presents (data := page) (rest := pageResponses s.cfg.wire pages ++ later)
      here present
    obtain ⟨t, loop, tail, drained, stop⟩ := ih (bound := bound) next (by rw [← count, List.length_cons]; omega)
      (by simpa using enough) (fun d mem => sizes d (List.mem_cons_of_mem _ mem)) rfl
    refine ⟨t, ?_, head.cons tail, drained, stop⟩
    change flowPage true (beginPage true s) = _ at read
    simp only [pageLoop, startPage_left left here.abort, read, Flow.andThen, finishPage_pageRead size]
    exact loop

/-- An image has no more pages than bytes. -/
theorem pageCount_le_length (image : List Byte) : pageCount image ≤ image.length := by
  unfold pageCount
  omega

/-- Settles O41: the pass starts at page 0, and the loop reads all pages. -/
theorem verifyImagePresentsEveryPage : Obligations.VerifyImagePresentsEveryPage := by
  intro s pages later sess clear low enabled _ vAtt vOk count sizes queue
  have may : passMayStart true s = true := by
    obtain sess | sess := sess <;> simp [passMayStart, sess, clear, enabled]
  have begun : VerifyAt s.src.bytes 0 (startPass true s) :=
    ⟨rfl, low, congrArg be32 (BitVec.add_zero _).symm, rfl, congrArg _ (Nat.zero_min _).symm⟩
  have enough : pages.length < srcReadBound s := by
    have := pageCount_le_length s.src.bytes
    unfold srcReadBound
    omega
  obtain ⟨t, loop, presented, drained, stop⟩ :=
    verifyLoop_presents pages begun (by rw [Nat.zero_add, count]) enough sizes queue
  obtain ⟨htx, houts, hvAtt, hvOk, hfail, hsess, hpass, -, hpbuf, hchunk, hwAtt, hwOk⟩ := presented
  refine ⟨t, ?_, hfail.trans clear, hsess, hpass, ?_, drained, ?_, ?_, ?_, stop, hpbuf, hchunk, hwAtt, hwOk⟩
  · change (flowPass true s).outcome = _
    rw [flowPass, if_pos may, loop]
    rfl
  · rw [htx, count, ← List.range_eq_range']
    rfl
  · rw [houts]
    change pageOuts (s.trace ++ [.srcRewind]) ++ _ = _
    simp [pageOuts, startPass]
  · rw [hvAtt, count]
    exact (congrArg (· + _) vAtt).trans (BitVec.zero_add _)
  · rw [hvOk, count]
    exact (congrArg (· + _) vOk).trans (BitVec.zero_add _)

end Sys2Proof.Machine
end

section
/-! PROOF. The hardwired sequence against `flashAndVerify` (10_state.md R25, 44_transfer_orchestrator.md R258). A
state of the sequence is a state of the operation with control set to the sequence's position, so the proof has two
parts: operations do not look at control, and from each position the engine's turns come to the outcome of what is
left of the operation. -/

namespace Sys2Proof.Machine

/-! ### Operations do not look at control -/

/-- A flow with control set to `c` where it goes on; a failure and a reset have set control themselves. -/
def Flow.withCtl (c : Ctl) : Flow → Flow
  | .ok s => .ok { s with ctl := c }
  | .fail s => .fail s
  | .reset s => .reset s
  | .fault e => .fault e
  | .refused r => .refused r

/-- A move of another agent with control set to `c`; a reset sets control itself. -/
def Moved.withCtl (c : Ctl) : Moved → Moved
  | .on s => .on { s with ctl := c }
  | .reset s => .reset s
  | .broken => .broken

/-- The end of a wait with control set to `c`; a reset sets control itself. -/
def Waited.withCtl (c : Ctl) : Waited → Waited
  | .avail s => .avail { s with ctl := c }
  | .timeout s => .timeout { s with ctl := c }
  | .reset s => .reset s
  | .broken => .broken

theorem otherMove_withCtl (m : EnvMove) (c : Ctl) (s : State) :
    otherMove m { s with ctl := c } = (otherMove m s).withCtl c := by
  cases m with
  | attach image pos =>
    simp only [otherMove]
    split <;> rfl
  | takeLink | driveLines =>
    change (if linkTaken s = true then _ else _) = Moved.withCtl c (if linkTaken s = true then _ else _)
    split <;> rfl
  | engine | timer | target | start | abort | reset => rfl

theorem waitLoop_withCtl (n : Nat) (c : Ctl) (moves : List EnvMove) (s : State) :
    waitLoop n moves { s with ctl := c } = (waitLoop n moves s).withCtl c := by
  induction moves generalizing s with
  | nil =>
    unfold waitLoop
    by_cases ready : n ≤ s.rxq.length <;> simp only [ready, if_true, if_false] <;> rfl
  | cons m rest ih =>
    unfold waitLoop
    by_cases ready : n ≤ s.rxq.length
    · simp only [ready, if_true]
      rfl
    by_cases timer : m = .timer
    · simp only [ready, timer, if_true, if_false]
      rfl
    have head : otherMove m { s with ctl := c, env := rest } = (otherMove m { s with env := rest }).withCtl c :=
      otherMove_withCtl m c { s with env := rest }
    simp only [ready, timer, if_false, head]
    cases otherMove m { s with env := rest } with
    | on u => exact ih u
    | reset u | broken => rfl

/-- A failure sends control to the close sequence from wherever it is (R284). -/
theorem raiseFail_withCtl (reason : FailReason) (st : StepId) (c : Ctl) (s : State) :
    raiseFail reason st { s with ctl := c } = raiseFail reason st s := by
  by_cases clear : s.failReason = .none
  · simp [raiseFail, recordFailure, failedPage, clear]
  · simp [raiseFail, recordFailure, clear]

theorem exchange_withCtl (frame : List Byte) (n : Nat) (st : StepId) (c : Ctl) (s : State) :
    exchange frame n st { s with ctl := c } = (exchange frame n st s).withCtl c := by
  have wait : waitForBytes n (send frame { { s with ctl := c } with step := some st }) =
      (waitForBytes n (send frame { s with step := some st })).withCtl c :=
    waitLoop_withCtl n c _ (send frame { s with step := some st })
  unfold exchange
  rw [wait]
  cases waitForBytes n (send frame { s with step := some st }) with
  | timeout v => exact congrArg Flow.fail (raiseFail_withCtl _ st c v)
  | reset v | broken => rfl
  | avail v =>
    simp only [Waited.withCtl]
    by_cases queued : n ≤ v.rxq.length
    · rw [readBytes_eq_received queued, readBytes_eq_received (s := { v with ctl := c }) queued]
      by_cases ack : acknowledged v.cfg.wire (v.rxq.take n) = true
      · simp only [received, emit_cfg, ack, if_true]
        rfl
      · simp only [received, emit_cfg, ack]
        exact congrArg Flow.fail (raiseFail_withCtl _ st c (received n v))
    · simp [readBytes, queued, Flow.withCtl]

theorem commandStep_withCtl (frame : List Byte) (st : StepId) (c : Ctl) (s : State) :
    commandStep frame st { s with ctl := c } = (commandStep frame st s).withCtl c := by
  by_cases sess : s.sess = stepSession st
  · rw [commandStep_inSession frame st s sess, commandStep_inSession frame st { s with ctl := c } sess,
      exchange_withCtl]
  · rw [commandStep_outside frame st s sess, commandStep_outside frame st { s with ctl := c } sess]
    rfl

theorem payloadStep_withCtl (payload : List Byte) (st : StepId) (c : Ctl) (s : State) :
    payloadStep payload st { s with ctl := c } = (payloadStep payload st s).withCtl c := by
  unfold payloadStep
  cases buildDataBlockFrame payload with
  | some frame => exact commandStep_withCtl frame st c s
  | none =>
    change (if s.sess = stepSession st then _ else _) = Flow.withCtl c (if s.sess = stepSession st then _ else _)
    split
    · exact congrArg Flow.fail (raiseFail_withCtl _ st c { s with step := some st })
    · rfl

theorem stepFlow_withCtl (st : StepId) (c : Ctl) (s : State) :
    stepFlow st { s with ctl := c } = (stepFlow st s).withCtl c := by
  cases st with
  | writePayload => exact payloadStep_withCtl s.pbuf _ c s
  | sync | get | getVersion | getId | eraseCmd | eraseParam | extEraseCmd | extEraseParam | writeSetup
  | writeAddress | readSetup | readAddress | readLength => exact commandStep_withCtl _ _ c s

/-! ### What is left of an operation -/

/-- The outcome of an operation whose rest answers `ok` where its first part goes on and `fail` where it
failed; a reset ends it (R104, R258, R321). -/
def Flow.resume (f : Flow) (ok fail : State → Host.Outcome State Fault Refusal) :
    Host.Outcome State Fault Refusal :=
  match f with
  | .ok s => ok s
  | .fail s => fail s
  | .reset s => .next s
  | .fault e => .fault e
  | .refused r => .refused r

theorem andThen_resume (f : Flow) (k : State → Flow) (ok fail : State → Host.Outcome State Fault Refusal) :
    (f.andThen k).resume ok fail = f.resume (fun s => (k s).resume ok fail) fail := by
  cases f <;> rfl

theorem always_outcome (f : Flow) (k : State → Flow) :
    (f.always k).outcome = f.resume (fun s => (k s).outcome) fun s => (k s).outcome := by
  cases f <;> rfl

/-! ### Turns of the engine -/

/-- The engine's turns from `s`, one after another, come to the outcome `o`. -/
def Reaches (s : State) (o : Host.Outcome State Fault Refusal) : Prop := ∃ k, engineRun k s = o

namespace Reaches

variable {s t : State} {o : Host.Outcome State Fault Refusal}

theorem here (s : State) : Reaches s (.next s) := ⟨0, rfl⟩

theorem turn (first : engineStep s = .next t) (rest : Reaches t o) : Reaches s o := by
  obtain ⟨k, run⟩ := rest
  exact ⟨k + 1, by simp only [engineRun, first, run]⟩

theorem fault {e : Fault} (first : engineStep s = .fault e) : Reaches s (.fault e) :=
  ⟨1, by simp only [engineRun, first]⟩

theorem refused {r : Refusal} (first : engineStep s = .refused r) : Reaches s (.refused r) :=
  ⟨1, by simp only [engineRun, first]⟩

theorem run {k : Nat} (first : engineRun k s = .next t) (rest : Reaches t o) : Reaches s o := by
  induction k generalizing s with
  | zero => cases first; exact rest
  | succ k ih =>
    simp only [engineRun] at first
    cases hs : engineStep s with
    | next u => simp only [hs] at first; exact turn hs (ih first)
    | fault e | refused r => simp only [hs] at first; cases first

end Reaches

/-- An operation runs, in the session state `x`, and nothing has failed. -/
def Operating (x : Sess) (s : State) : Prop := s.busy = true ∧ s.failReason = .none ∧ s.sess = x

theorem Operating.underway {x : Sess} {n : Nat} {st : StepId} {s w : State} (here : Operating x s)
    (underway : Underway n st s w) : Operating x w := by
  cases underway
  exact here

/-- While an operation runs the other agents leave its source (R327). -/
theorem Underway.src_of_busy {n : Nat} {st : StepId} {s w : State} (underway : Underway n st s w)
    (busy : s.busy = true) : w.src = s.src := by
  cases underway with
  | intro _ _ _ _ _ _ _ _ _ _ same => exact same busy

/-- A command step as a turn: it goes on to what follows it, or a recorded failure goes on to the close. -/
theorem reaches_command {st : StepId} {s : State} {ok fail : State → Host.Outcome State Fault Refusal}
    (here : Operating (stepSession st) s)
    (goesOn : ∀ t, Operating (stepSession st) t → t.src = s.src →
      Reaches (afterStep st { t with ctl := .command st }) (ok t))
    (closes : ∀ t, t.failReason ≠ .none → Reaches { t with ctl := .closing 0 } (fail t)) :
    Reaches { s with ctl := .command st } ((stepFlow st s).resume ok fail) := by
  obtain ⟨busy, clear, sess⟩ := here
  have due : dueStep { s with ctl := .command st } = some st := dueStep_command rfl sess
  have turn : engineStep { s with ctl := .command st } =
      mapNext (retireStep st) ((stepFlow st s).withCtl (.command st)).outcome := by
    simp only [engineStep, due, exec_issue, stepFlow_withCtl]
  have ended := stepFlow_commandEnd st s
  generalize stepFlow st s = f at turn ended
  cases ended with
  | @acknowledged w underway =>
    refine .turn (turn.trans (congrArg Host.Outcome.next (retireStep_here st _ rfl))) ?_
    exact goesOn w (Operating.underway ⟨busy, clear, sess⟩ underway) (underway.src_of_busy busy)
  | @failed w reason named underway =>
    refine .turn (turn.trans (congrArg Host.Outcome.next (retireStep_moved st _ (by simp)))) ?_
    exact closes (raiseFail reason st w) (recordFailure_recorded _ _ _ _ named)
  | reset mem underway =>
    exact .turn (turn.trans (congrArg Host.Outcome.next
      (retireStep_moved st _ (show Ctl.rest ≠ .command st from nofun)))) (.here _)
  | refused r => exact .refused turn

/-! ### The session -/

/-- The engine's turn at a position that issues no command step is the sequence's own action. -/
theorem engineStep_sequence {s : State} (h : ∀ st, s.ctl ≠ .command st) : engineStep s = sequenceAction s := by
  have none_due : dueStep s = none := by
    cases hd : dueStep s with
    | none => rfl
    | some st => exact absurd (ctl_of_dueStep hd) (h st)
  simp only [engineStep, none_due]

/-- `enter`, and the six turns that take its actions (R172). -/
theorem reaches_enter {s : State} {o : Host.Outcome State Fault Refusal} (sess : s.sess = .idle)
    (own : s.own = false) :
    ∃ t, enterSession s = .ok t ∧ t.sess = .modeAsserted ∧ t.busy = s.busy ∧ t.failReason = s.failReason ∧
      (Reaches { t with ctl := .command .sync } o → Reaches { s with ctl := .entering 0 } o) := by
  obtain ⟨⟩ := s
  cases sess
  cases own
  exact ⟨_, rfl, rfl, rfl, rfl, Reaches.run (k := 6) rfl⟩

/-- `openSession` after `enter` (R174, R175): the eight steps of the session, one turn each. -/
theorem reaches_handshake {s : State} {ok fail : State → Host.Outcome State Fault Refusal}
    (here : Operating .modeAsserted s)
    (goesOn : ∀ t, Operating .ready t → Reaches { t with ctl := .startPass false } (ok t))
    (closes : ∀ t, t.failReason ≠ .none → Reaches { t with ctl := .closing 0 } (fail t)) :
    Reaches { s with ctl := .command .sync } (((flowHandshake s).andThen flowSetup).resume ok fail) := by
  rw [andThen_resume, flowHandshake, andThen_resume]
  refine reaches_command (st := .sync) here (fun t0 ⟨busy, clear, _⟩ _ => ?_) closes
  change Reaches { { t0 with sess := .synced } with ctl := .command .get }
    ((flowSetup { t0 with sess := .synced }).resume ok fail)
  unfold flowSetup
  rw [andThen_resume]
  refine reaches_command (st := .get) ⟨busy, clear, rfl⟩ (fun t1 here _ => ?_) closes
  rw [andThen_resume]
  refine reaches_command (st := .getVersion) here (fun t2 here _ => ?_) closes
  rw [andThen_resume]
  refine reaches_command (st := .getId) here (fun t3 here _ => ?_) closes
  rw [andThen_resume]
  refine reaches_command (st := .eraseCmd) here (fun t4 here _ => ?_) closes
  rw [andThen_resume]
  refine reaches_command (st := .eraseParam) here (fun t5 here _ => ?_) closes
  rw [andThen_resume]
  refine reaches_command (st := .extEraseCmd) here (fun t6 here _ => ?_) closes
  rw [andThen_resume]
  refine reaches_command (st := .extEraseParam) here (fun t7 ⟨busy, clear, _⟩ _ => ?_) closes
  exact goesOn { t7 with sess := .ready } ⟨busy, clear, rfl⟩

/-- `closeSession` and the end of the operation, whatever came before (R182, R258). -/
def closeFlow (s : State) : Flow := (leaveSession s).always fun t => .ok (finish t)

/-- The first turn of the close sequence is its first action, from `Faulted` and `Erasing` too (R184, R186). -/
theorem engineStep_closing (s : State) :
    engineStep { s with ctl := .closing 0 } = closeAction 0 { s with ctl := .closing 0 } := by
  rw [engineStep_sequence (by simp)]
  unfold sequenceAction
  split <;> rfl

/-- The close sequence and the end of the operation, eight turns (R182, R258). -/
theorem reaches_close (s : State) : Reaches { s with ctl := .closing 0 } (closeFlow s).outcome := by
  by_cases own : s.own = true
  · have owned : s = { s with own := true } := by rw [← own]
    rw [owned]
    exact .turn (engineStep_closing _) ⟨7, rfl⟩
  · have stopped : leaveSession s = .fault .noTransition := if_neg own
    rw [closeFlow, stopped]
    exact .fault ((engineStep_closing s).trans (if_pos ⟨rfl, by simpa using own⟩))

/-! ### Pages and passes -/

/-- The page transaction of a pass, one turn for each of its three steps (R216, R226). -/
theorem reaches_page (verify : Bool) {s : State} {ok fail : State → Host.Outcome State Fault Refusal}
    (here : Operating .transferring s)
    (goesOn : ∀ t, Operating .transferring t → t.src = s.src →
      Reaches { t with ctl := .finishPage verify } (ok t))
    (closes : ∀ t, t.failReason ≠ .none → Reaches { t with ctl := .closing 0 } (fail t)) :
    Reaches { s with ctl := .command (if verify then .readSetup else .writeSetup) }
      ((flowPage verify s).resume ok fail) := by
  cases verify with
  | true =>
    change Reaches _ ((flowReadPage s).resume ok fail)
    rw [flowReadPage, andThen_resume]
    refine reaches_command (st := .readSetup) here (fun t1 here src1 => ?_) closes
    rw [andThen_resume]
    refine reaches_command (st := .readAddress) here (fun t2 here src2 => ?_) closes
    refine reaches_command (st := .readLength) here (fun t3 here src3 => ?_) closes
    exact goesOn t3 here (src3.trans (src2.trans src1))
  | false =>
    change Reaches _ ((flowWritePage s).resume ok fail)
    rw [flowWritePage, andThen_resume]
    refine reaches_command (st := .writeSetup) here (fun t1 here src1 => ?_) closes
    rw [andThen_resume]
    refine reaches_command (st := .writeAddress) here (fun t2 here src2 => ?_) closes
    refine reaches_command (st := .writePayload) here (fun t3 here src3 => ?_) closes
    exact goesOn t3 here (src3.trans (src2.trans src1))

/-- The source after a page start, in both passes (R62). -/
theorem beginPage_src (verify : Bool) (s : State) : (beginPage verify s).src = (srcRead s).src := by
  cases verify <;> rfl

theorem finishPage_src (verify : Bool) (s : State) : (finishPage verify s).src = s.src := by cases verify <;> rfl

/-- `ABORT` sampled high before a page that exists (R256). -/
theorem startPage_aborted {verify : Bool} {s : State} (left : nextChunk s.src ≠ []) (high : s.abort = true) :
    startPage verify s = .aborted (raiseAbort (srcRead s)) := by
  simp [startPage, left, high]

theorem raiseAbort_recorded (s : State) : (raiseAbort s).failReason ≠ .none :=
  recordFailure_recorded _ _ _ _ (by decide)

theorem raiseAbort_withCtl (c : Ctl) (s : State) : raiseAbort { s with ctl := c } = raiseAbort s := by
  by_cases clear : s.failReason = .none <;> simp [raiseAbort, recordFailure, clear]

/-- In a page pass the engine's turn at the start of a page goes as `startPage` does (R240, R247). -/
theorem engineStep_startPage (verify : Bool) {s : State} (sess : s.sess = .transferring) :
    engineStep { s with ctl := .startPage verify } =
      if nextChunk s.src = [] then .next { srcRead s with ctl := afterPass verify (srcRead s) }
      else if s.abort then .next (raiseAbort (srcRead s))
      else .next { beginPage verify s with ctl := .command (if verify then .readSetup else .writeSetup) } := by
  rw [engineStep_sequence (by simp), sequenceAction, if_neg (by simp [sess])]
  by_cases empty : nextChunk s.src = []
  · rw [if_pos empty]
    simp only [startPage_exhausted (s := { s with ctl := .startPage verify }) empty]
    rfl
  by_cases high : s.abort = true
  · rw [if_neg empty, if_pos high]
    simp only [startPage_aborted (s := { s with ctl := .startPage verify }) empty high]
    exact congrArg Host.Outcome.next (raiseAbort_withCtl _ (srcRead s))
  · rw [if_neg empty, if_neg high]
    simp only [startPage_left (s := { s with ctl := .startPage verify }) empty (by simpa using high)]
    cases verify <;> rfl

theorem engineStep_finishPage (verify : Bool) {s : State} (sess : s.sess = .transferring) :
    engineStep { s with ctl := .finishPage verify } =
      .next { finishPage verify s with ctl := .startPage verify } := by
  rw [engineStep_sequence (by simp), sequenceAction, if_neg (by simp [sess])]
  cases verify <;> rfl

/-- The page loop, a page and the next page start at a time, as long as its bound is not reached (R240, R262). -/
theorem reaches_pageLoop (verify : Bool) (bound : Nat) {s : State}
    {ok fail : State → Host.Outcome State Fault Refusal} (here : Operating .transferring s)
    (enough : s.src.bytes.length - s.src.pos < bound)
    (goesOn : ∀ t, Operating .transferring t → Reaches { t with ctl := afterPass verify t } (ok t))
    (closes : ∀ t, t.failReason ≠ .none → Reaches { t with ctl := .closing 0 } (fail t)) :
    Reaches { s with ctl := .startPage verify } ((pageLoop verify bound s).resume ok fail) := by
  induction bound generalizing s with
  | zero => exact absurd enough (Nat.not_lt_zero _)
  | succ bound ih =>
    obtain ⟨busy, clear, sess⟩ := here
    have turn := engineStep_startPage verify sess
    unfold pageLoop
    by_cases empty : nextChunk s.src = []
    · rw [if_pos empty] at turn
      rw [startPage_exhausted empty]
      exact .turn turn (goesOn (srcRead s) ⟨busy, clear, sess⟩)
    rw [if_neg empty] at turn
    by_cases high : s.abort = true
    · rw [if_pos high] at turn
      rw [startPage_aborted empty high]
      exact .turn turn (closes (raiseAbort (srcRead s)) (raiseAbort_recorded _))
    rw [if_neg high] at turn
    rw [startPage_left empty (by simpa using high)]
    have begun : Operating .transferring (beginPage verify s) := by cases verify <;> exact ⟨busy, clear, sess⟩
    refine .turn turn ?_
    change Reaches _ (((flowPage verify (beginPage verify s)).andThen _).resume ok fail)
    rw [andThen_resume]
    refine reaches_page verify begun (fun t ⟨busy, clear, sess⟩ src => ?_) closes
    refine .turn (engineStep_finishPage verify sess) (ih ?_ ?_)
    · cases verify <;> exact ⟨busy, clear, sess⟩
    · have read := nextChunk_length s.src
      rw [nextChunk_eq_nil] at empty
      rw [finishPage_src, src, beginPage_src, srcRead_src]
      simp only
      omega

/-- A pass: it starts where its precondition holds, and the model faults with the operation where it does not
(R240, R247). -/
theorem reaches_pass (verify : Bool) {s : State} {ok fail : State → Host.Outcome State Fault Refusal}
    (busy : s.busy = true) (opened : ¬(s.sess = .faulted ∨ s.sess = .erasing))
    (goesOn : ∀ t, Operating .transferring t → Reaches { t with ctl := afterPass verify t } (ok t))
    (closes : ∀ t, t.failReason ≠ .none → Reaches { t with ctl := .closing 0 } (fail t)) :
    Reaches { s with ctl := .startPass verify } ((flowPass verify s).resume ok fail) := by
  have turn : engineStep { s with ctl := .startPass verify } =
      if passMayStart verify s then .next { startPass verify s with ctl := .startPage verify }
      else .fault .passPrecondition := by
    rw [engineStep_sequence (by simp), sequenceAction, if_neg opened]
    rfl
  unfold flowPass
  split
  · rename_i may
    rw [if_pos may] at turn
    have clear : s.failReason = .none := by
      simp only [passMayStart, Bool.and_eq_true, decide_eq_true_eq] at may
      obtain ⟨⟨-, clear⟩, -⟩ := may
      exact clear
    refine .turn turn (reaches_pageLoop verify _ ⟨busy, clear, rfl⟩ ?_ goesOn closes)
    change s.src.bytes.length - 0 < srcReadBound s
    unfold srcReadBound
    omega
  · rename_i not_may
    rw [if_neg not_may] at turn
    exact .fault turn

/-! ### The operation -/

/-- The rest of an operation after its write pass (R258). -/
def verifyFlow (s : State) : Flow :=
  (if s.failReason = .none ∧ s.cfg.verifyEn then flowPass true s else .ok s).always closeFlow

/-- The rest of an operation after its session is open (R258). -/
def writeFlow (s : State) : Flow :=
  (if s.failReason = .none then flowPass false s else .ok s).always verifyFlow

/-- The operation as the model writes it. -/
theorem flowFlashAndVerify_eq {s : State} (idle : s.busy = false) :
    flowFlashAndVerify s = (flowOpenSession (accept s)).always writeFlow := by
  rw [flowFlashAndVerify, idle]
  rfl

/-- After a failure the passes are left out (R258, R284). -/
theorem verifyFlow_failed {s : State} (failed : s.failReason ≠ .none) : verifyFlow s = closeFlow s := by
  rw [verifyFlow, if_neg (by simp [failed])]
  rfl

theorem writeFlow_failed {s : State} (failed : s.failReason ≠ .none) : writeFlow s = closeFlow s := by
  rw [writeFlow, if_neg failed, ← verifyFlow_failed failed]
  rfl

theorem reaches_verify {s : State} (here : Operating .transferring s) :
    Reaches { s with ctl := afterPass false s } (verifyFlow s).outcome := by
  obtain ⟨busy, clear, sess⟩ := here
  by_cases enabled : s.cfg.verifyEn = true
  · rw [verifyFlow, if_pos ⟨clear, enabled⟩, always_outcome, afterPass, if_pos ⟨rfl, enabled⟩]
    exact reaches_pass true busy (by simp [sess]) (fun t _ => reaches_close t) fun t _ => reaches_close t
  · rw [verifyFlow, if_neg (by simp [enabled]), afterPass, if_neg (by simp [enabled])]
    exact reaches_close s

theorem reaches_write {s : State} (here : Operating .ready s) :
    Reaches { s with ctl := .startPass false } (writeFlow s).outcome := by
  obtain ⟨busy, clear, sess⟩ := here
  rw [writeFlow, if_pos clear, always_outcome]
  refine reaches_pass false busy (by simp [sess]) (fun _ => reaches_verify) fun t failed => ?_
  rw [verifyFlow_failed failed]
  exact reaches_close t

theorem reaches_operation {s : State} (rest : atRest s) :
    Reaches { accept s with ctl := .entering 0 } (flowFlashAndVerify s).outcome := by
  obtain ⟨-, idle, sess, own⟩ := rest
  obtain ⟨t, entered, hsess, hbusy, hfail, run⟩ :=
    reaches_enter (s := accept s) (o := (flowFlashAndVerify s).outcome) sess own
  refine run ?_
  rw [flowFlashAndVerify_eq idle, always_outcome, flowOpenSession, entered]
  refine reaches_handshake ⟨hbusy, hfail, hsess⟩ (fun _ => reaches_write) fun t failed => ?_
  rw [writeFlow_failed failed]
  exact reaches_close t

/-- Settles O47: the raise is accepted in its step, and from there the engine's turns run the operation. -/
theorem sequencerRunsFlashAndVerify : Obligations.SequencerRunsFlashAndVerify := by
  intro s later rest low he
  obtain ⟨hc, idle, sess, own⟩ := rest
  obtain ⟨k, run⟩ := reaches_operation (s := { s with start := true, env := later }) ⟨hc, idle, sess, own⟩
  refine ⟨_, k, ?_, run⟩
  rw [step_of_other he nofun, otherAction_accepted { s with env := later } low idle hc]
  simp [accept, driveStart, low, idle]

end Sys2Proof.Machine
end

section
/-! PROOF. The write pass with every acknowledgment queued (43_command_set.md R216, 44_transfer_orchestrator.md R240
to R244): one page, the loop over all pages, the pass. -/

namespace Sys2Proof.Machine

/-! ### One page -/

/-- The trace of a page written (R216). -/
def writePageEvents (w : Wire) (a : FlashAddress) (page : List Byte) : List Event :=
  [.tx (buildCommand w.opcWrite), .rx [w.ack], .tx (buildAddressFrame a), .rx [w.ack],
    .tx (0xFF :: page ++ [xorAll (0xFF :: page)]), .rx [w.ack]]

/-- The state after `writePage` with `rest` left in the queue (R216). -/
def pageSent (rest : List Byte) (s : State) : State :=
  { s with
    step := some .writePayload
    tx := s.tx ++ writePageBytes s.cfg.wire s.addr s.pbuf
    rxq := rest
    rxbuf := fillRxbuf [s.cfg.wire.ack] s.rxbuf
    rxLen := 1
    trace := s.trace ++ writePageEvents s.cfg.wire s.addr s.pbuf }

/-- `writePage` with its three acknowledgments in the queue (R216). -/
theorem flowWritePage_answered {rest : List Byte} {s : State} (sess : s.sess = .transferring)
    (size : s.pbuf.length = 256)
    (queue : s.rxq = [s.cfg.wire.ack, s.cfg.wire.ack, s.cfg.wire.ack] ++ rest) :
    flowWritePage s = .ok (pageSent rest s) := by
  let setup := exchanged (buildCommand s.cfg.wire.opcWrite) 1 .writeSetup s
  let addressed := exchanged (buildAddressFrame s.addr) 1 .writeAddress setup
  have first : flowWriteSetup s = .ok setup := commandStep_answered sess (by simp [answered, ackLen, queue])
  have second : flowWriteAddress setup.addr setup = .ok addressed :=
    commandStep_answered sess (by simp [answered, ackLen, setup, exchanged, queue])
  have third : flowWritePayload addressed.pbuf addressed =
      .ok (exchanged (0xFF :: s.pbuf ++ [xorAll (0xFF :: s.pbuf)]) 1 .writePayload addressed) :=
    (payloadStep_fits _ _ _ _ (buildDataBlockFrame_page s.pbuf size)).trans
      (commandStep_answered sess (by simp [answered, ackLen, setup, addressed, exchanged, queue]))
  simp only [flowWritePage, first, Flow.andThen, second, third]
  simp [exchanged, addressed, setup, pageSent, queue, fillRxbuf, writePageBytes, writePageEvents, buildCommand,
    buildAddressFrame, List.take_take]

/-- The page fetched at page `p`'s position is `page(p)` (R63, R243). -/
theorem beginPage_pbuf {image : List Byte} {p : Nat} {s : State} (here : VerifyAt image p s)
    (left : 256 * p < image.length) : (beginPage false s).pbuf = pageBytes image p := by
  have chunk : nextChunk s.src = (image.drop (256 * p)).take 256 := by
    rw [nextChunk, here.src, Nat.min_eq_left left.le]
  change nextChunk s.src ++ zeros (256 - (nextChunk s.src).length) = _
  rw [chunk]
  rfl

/-- A queue of one byte only, repeated three times at least (R216). -/
theorem eq_three_append_drop {a : Byte} {q : List Byte} (all : ∀ b ∈ q, b = a) (three : 3 ≤ q.length) :
    q = [a, a, a] ++ q.drop 3 := by
  match q, three with
  | x :: y :: z :: rest, _ => simp_all

/-! ### The loop -/

/-- From the pass start `s` to `t` the first `p` pages of the image were written and page `p` is next (`VerifyAt`
says where a pass stands, whichever it is): what was sent, consumed and counted, and what stayed (R240 to R244). -/
structure Written (p : Nat) (s t : State) : Prop extends VerifyAt s.src.bytes p t where
  tx : t.tx = s.tx ++
    (List.range p).flatMap fun q => writePageBytes s.cfg.wire (pageAddress s.cfg.base q) (pageBytes s.src.bytes q)
  rxq : t.rxq = s.rxq.drop (3 * p)
  wAtt : t.wAtt = s.wAtt + BitVec.ofNat 32 p
  wOk : t.wOk = s.wOk + BitVec.ofNat 32 p
  kept : t.failReason = s.failReason ∧ t.pass = s.pass ∧ t.cfg = s.cfg ∧ t.vAtt = s.vAtt ∧ t.vOk = s.vOk

/-- A counter that has come to `p` pages more, counts one more (R244). -/
theorem add_ofNat_succ (v : Word32) (p : Nat) : v + BitVec.ofNat 32 p + 1 = v + BitVec.ofNat 32 (p + 1) := by
  rw [BitVec.ofNat_add, BitVec.add_assoc]
  rfl

/-- One page: fetched, sent at its address and counted, and the next one is due (R243, R244). -/
theorem Written.page {p : Nat} {s t : State} (written : Written p s t) (left : 256 * p < s.src.bytes.length) :
    Written (p + 1) s (finishPage false (pageSent (t.rxq.drop 3) (beginPage false t))) := by
  have page := beginPage_pbuf written.toVerifyAt left
  obtain ⟨⟨sess, abort, addr, pageIdx, src⟩, tx, rxq, wAtt, wOk, fail, pass, cfg, vAtt, vOk⟩ := written
  refine ⟨⟨sess, abort, ?_, ?_, ?_⟩, ?_, ?_, ?_, ?_, fail, pass, cfg, vAtt, vOk⟩
  · exact (congrArg incrementAddress addr).trans (incrementAddress_pageAddress _ p)
  · exact (congrArg (· + 1) pageIdx).trans (BitVec.ofNat_add p 1).symm
  · have chunk := nextChunk_length t.src
    rw [src] at chunk
    change Source.mk t.src.bytes (t.src.pos + (nextChunk t.src).length) = _
    simp only [src, chunk, Source.mk.injEq, true_and]
    omega
  · change t.tx ++ writePageBytes t.cfg.wire t.addr (beginPage false t).pbuf = _
    rw [page, tx, addr, cfg, List.range_succ, List.flatMap_append, List.flatMap_singleton, List.append_assoc]
  · exact (congrArg (List.drop 3) rxq).trans List.drop_drop
  · exact (congrArg (· + 1) wAtt).trans (add_ofNat_succ _ p)
  · exact (congrArg (· + 1) wOk).trans (add_ofNat_succ _ p)

/-- With acknowledgments only in the queue of the pass start, the three of page `p` are next. -/
theorem Written.queue {p : Nat} {s t : State} (written : Written p s t) (acks : ∀ b ∈ s.rxq, b = s.cfg.wire.ack)
    (queued : 3 * (p + 1) ≤ s.rxq.length) :
    t.rxq = [t.cfg.wire.ack, t.cfg.wire.ack, t.cfg.wire.ack] ++ t.rxq.drop 3 := by
  obtain ⟨-, -, cfg, -, -⟩ := written.kept
  rw [cfg, written.rxq]
  refine eq_three_append_drop (fun b mem => acks b (List.mem_of_mem_drop mem)) ?_
  rw [List.length_drop]
  omega

/-- The loop with `k` pages left and an acknowledgment queued for every step. -/
theorem writeLoop_writes {s : State} (acks : ∀ b ∈ s.rxq, b = s.cfg.wire.ack)
    (queued : 3 * pageCount s.src.bytes ≤ s.rxq.length) (k : Nat) {p bound : Nat} {t : State}
    (written : Written p s t) (count : p + k = pageCount s.src.bytes) (enough : k < bound) :
    ∃ u, pageLoop false bound t = .ok u ∧ Written (pageCount s.src.bytes) s u := by
  induction k generalizing p bound t with
  | zero =>
    obtain ⟨bound, rfl⟩ := Nat.exists_eq_succ_of_ne_zero (Nat.ne_of_gt enough)
    obtain rfl : p = pageCount s.src.bytes := count
    have empty : nextChunk t.src = [] := by
      rw [nextChunk_eq_nil, written.src]
      simp only [pageCount]
      omega
    refine ⟨srcRead t, by simp only [pageLoop, startPage_exhausted empty], { written with src := ?_ }⟩
    rw [srcRead_src, empty]
    exact written.src
  | succ k ih =>
    obtain ⟨bound, rfl⟩ := Nat.exists_eq_succ_of_ne_zero (Nat.ne_of_gt (Nat.zero_lt_of_lt enough))
    have present : 256 * p < s.src.bytes.length := by
      unfold pageCount at count
      omega
    have left : nextChunk t.src ≠ [] := by
      rw [ne_eq, nextChunk_eq_nil, written.src]
      simp only
      omega
    have short : (nextChunk t.src).length ≤ 256 := by
      rw [nextChunk_length]
      omega
    have sent : flowPage false (beginPage false t) = .ok (pageSent (t.rxq.drop 3) (beginPage false t)) :=
      flowWritePage_answered written.sess (loadPage_length _ (srcRead t) short)
        (written.queue acks (by omega))
    simp only [pageLoop, startPage_left left written.abort, sent, Flow.andThen]
    exact ih (written.page present) (by omega) (by omega)

/-- Settles O40: the pass starts at page 0, and the loop writes all pages. -/
theorem writeImageSendsEveryPage : Obligations.WriteImageSendsEveryPage := by
  intro s sess clear low _ wAtt wOk acks queued
  have may : passMayStart false s = true := by
    obtain sess | sess := sess <;> simp [passMayStart, sess, clear]
  have begun : Written 0 (startPass false s) (startPass false s) :=
    ⟨⟨rfl, low, congrArg be32 (BitVec.add_zero _).symm, rfl, congrArg (Source.mk _) (Nat.zero_min _).symm⟩,
      (List.append_nil _).symm, rfl, (BitVec.add_zero _).symm, (BitVec.add_zero _).symm, rfl, rfl, rfl, rfl, rfl⟩
  have enough : pageCount s.src.bytes < srcReadBound s := by
    have := pageCount_le_length s.src.bytes
    unfold srcReadBound
    omega
  obtain ⟨t, loop, ⟨hsess, -, haddr, hidx, hsrc⟩, htx, hrxq, hwAtt, hwOk, hfail, hpass, hcfg, hvAtt, hvOk⟩ :=
    writeLoop_writes (s := startPass false s) acks queued _ begun (Nat.zero_add _) enough
  refine ⟨t, ?_, hfail.trans clear, hsess, hpass, htx, hrxq, ?_, ?_, hidx, ?_, ?_, hvAtt, hvOk⟩
  · change (flowPass false s).outcome = _
    rw [flowPass, if_pos may, loop]
    rfl
  · exact hwAtt.trans ((congrArg (· + _) wAtt).trans (BitVec.zero_add _))
  · exact hwOk.trans ((congrArg (· + _) wOk).trans (BitVec.zero_add _))
  · rw [haddr, hcfg]
    rfl
  · rw [hsrc]
    have whole : s.src.bytes.length ≤ 256 * pageCount s.src.bytes := by
      unfold pageCount
      omega
    exact congrArg _ (Nat.min_eq_right whole)

end Sys2Proof.Machine
end

section
/-! PROOF. Decoder and encoder agree (30_encoding.md R90 to R102): no reader of a step accepts other bytes than
the frame of what it answers, and reading against several steps answers the first that has the frame. -/

namespace Sys2Proof

/-! ### Accepted bytes are frames -/

/-- A format A frame is the frame of the address read from it (R94). -/
theorem buildAddressFrame_of_readAddressFrame {bs : List Byte} {a : FlashAddress}
    (h : readAddressFrame bs = some a) : Machine.buildAddressFrame a = bs := by
  unfold readAddressFrame at h
  split at h
  · split at h <;> cases h
    rename_i checksum
    rw [checksum]
    rfl
  · cases h

/-- The byte that makes a checksum 0 is the checksum of the others (R94, R95). -/
theorem Machine.eq_xorAll_of_checked {bs : List Byte} {c : Byte} (h : Machine.xorAll (bs ++ [c]) = 0) :
    c = Machine.xorAll bs := by
  rw [Machine.xorAll_append] at h
  change Machine.xorAll bs ^^^ (c ^^^ 0#8) = 0#8 at h
  rw [BitVec.xor_zero, BitVec.xor_eq_zero_iff] at h
  exact h.symm

/-- A page frame is the frame of the payload read from it (R95, R212). -/
theorem buildDataBlockFrame_of_readPageFrame {bs payload : List Byte} (h : readPageFrame bs = some payload) :
    Machine.buildDataBlockFrame payload = some bs := by
  have size : payload.length = 256 := length_of_readPageFrame h
  unfold readPageFrame at h
  split at h
  · cases h
  next n rest =>
    split at h <;> cases h
    next checks =>
      obtain ⟨rfl, length, checked⟩ := checks
      obtain ⟨c, last⟩ := List.length_eq_one_iff.mp (show (rest.drop pageSize).length = 1 by simp [length])
      have split : rest = rest.take pageSize ++ [c] := by rw [← last, List.take_append_drop]
      rw [split, ← List.cons_append] at checked
      rw [Machine.buildDataBlockFrame_page _ size, ← Machine.eq_xorAll_of_checked checked, List.cons_append,
        ← split]

/-- What the reader of a step accepts is the frame of what it answers (R99, R231). -/
theorem encode_of_readStep {w : Wire} {st : StepId} {bs : List Byte} {i : Instr} (h : readStep w st bs = some i) :
    encode w i = some bs := by
  cases st with
  | writeAddress | readAddress =>
    obtain ⟨a, read, rfl⟩ := Option.map_eq_some_iff.mp h
    exact congrArg some (buildAddressFrame_of_readAddressFrame read)
  | writePayload =>
    obtain ⟨payload, read, rfl⟩ := Option.map_eq_some_iff.mp h
    exact buildDataBlockFrame_of_readPageFrame read
  | sync | get | getVersion | getId | eraseCmd | eraseParam | extEraseCmd | extEraseParam | writeSetup
  | readSetup | readLength =>
    simp only [readStep] at h
    split at h <;> cases h
    next frame => exact congrArg some frame.symm

/-! ### The lengths of the frames -/

/-- The length of a step's frame, by its format (R91 to R95, R100). -/
def stepFrameLength : StepId → Nat
  | .sync => 1
  | .extEraseParam => 3
  | .writeAddress | .readAddress => 5
  | .writePayload => 258
  | .get | .getVersion | .getId | .eraseCmd | .eraseParam | .extEraseCmd | .writeSetup | .readSetup
  | .readLength => 2

theorem frameLength_of_stepId {i : Instr} {st : StepId} (h : i.stepId = some st) :
    Laws.EncodeLength.frameLength i = some (stepFrameLength st) := by
  cases i <;> cases h <;> rfl

theorem length_of_encode {w : Wire} {i : Instr} {st : StepId} {bs : List Byte} (wf : i.wf = true)
    (hst : i.stepId = some st) (sent : encode w i = some bs) : bs.length = stepFrameLength st := by
  have length : (encode w i).map List.length = Laws.EncodeLength.frameLength i := by
    cases i with
    | writePayload payload => exact Laws.EncodeLength.writePayload payload w wf
    | _ => rfl
  rw [sent, frameLength_of_stepId hst] at length
  exact Option.some.inj length

/-- A step reads no frame of another length (R102). -/
theorem readStep_of_length_ne {w : Wire} {st : StepId} {bs : List Byte} (h : stepFrameLength st ≠ bs.length) :
    readStep w st bs = none := by
  cases read : readStep w st bs with
  | none => rfl
  | some i =>
    obtain ⟨wf, hst⟩ := readStep_wf read
    exact absurd (length_of_encode wf hst (encode_of_readStep read)).symm h

/-- Where no step before has a frame of its length, the step that reads the frame gets it (R102). -/
theorem decode_of_first {w : Wire} {st : StepId} {bs : List Byte} {i : Instr} (before after : List StepId)
    (read : readStep w st bs = some i) (otherLength : ∀ x ∈ before, stepFrameLength x ≠ stepFrameLength st) :
    decode w (before ++ st :: after) bs = .ok i := by
  obtain ⟨wf, hst⟩ := readStep_wf read
  have length : bs.length = stepFrameLength st := length_of_encode wf hst (encode_of_readStep read)
  have skipped : before.findSome? (fun x => readStep w x bs) = none :=
    List.findSome?_eq_none_iff.mpr fun x mem => readStep_of_length_ne (length ▸ otherLength x mem)
  simp only [decode, List.findSome?_append, skipped, Option.none_or, List.findSome?_cons, read]

/-! ### The statements -/

/-- Settles O5: the reader of the instruction's step is the only one asked. -/
theorem decodeReadsWhatEncodeWrites : Obligations.DecodeReadsWhatEncodeWrites := by
  intro w i st wf hst
  obtain ⟨bs, sent, read⟩ := readStep_encode (w := w) wf hst
  exact ⟨bs, sent, decode_singleton read⟩

/-- Settles O6: some step's reader accepted the bytes. -/
theorem encodeWritesWhatDecodeReads : Obligations.EncodeWritesWhatDecodeReads := by
  intro w steps bs i decoded
  obtain ⟨st, -, read⟩ := exists_readStep_of_decode decoded
  exact ⟨(readStep_wf read).1, encode_of_readStep read⟩

/-- Settles O7: the fixed frames are read by evaluation; those with an operand, by the first step that has a
frame of their length. -/
theorem onlyTwoPairsOfFramesCoincide : Obligations.OnlyTwoPairsOfFramesCoincide := by
  intro i st bs wf hst sent
  obtain ⟨frame, sent', read⟩ := readStep_encode (w := Wire.standard) wf hst
  obtain rfl : frame = bs := Option.some.inj (sent'.symm.trans sent)
  cases i with
  | sync | get | getVersion | getId | eraseCmd | eraseParam | extEraseCmd | extEraseParam | writeSetup
  | readSetup | readLength =>
    cases hst
    cases sent
    exact ⟨rfl, rfl⟩
  | writeAddress a =>
    cases hst
    exact ⟨decode_of_first [.writeSetup] [.writePayload] read (by decide),
      decode_of_first (allSteps.take 9) (allSteps.drop 10) read (by decide)⟩
  | writePayload payload =>
    cases hst
    exact ⟨decode_of_first [.writeSetup, .writeAddress] [] read (by decide),
      decode_of_first (allSteps.take 10) (allSteps.drop 11) read (by decide)⟩
  | readAddress a =>
    cases hst
    cases sent
    have first : readStep Wire.standard .writeAddress (Machine.buildAddressFrame a) = some (.writeAddress a) :=
      congrArg (Option.map Instr.writeAddress) (readAddressFrame_buildAddressFrame a)
    exact ⟨decode_of_first [.readSetup] [.readLength] read (by decide),
      decode_of_first (allSteps.take 9) (allSteps.drop 10) first (by decide)⟩
  | buildCommand | buildAddressFrame | buildDataBlockFrame | incrementAddress | send | waitForBytes | readBytes
  | exchange | enter | openSession | closeSession | writePage | readPage | writeImage | verifyImage
  | flashAndVerify => cases hst

/-- A table word that spells the frame of a full page is read as that page (R95, R99). -/
theorem decodeTableWord_page {n : Nat} {payload : List Byte} (size : payload.length = 256)
    (spelt : encode Wire.standard (.writePayload payload) = some (frameBytes 258 n)) :
    decodeTableWord 2064 n = some (.writePayload payload) := by
  have decoded : decode Wire.standard allSteps (frameBytes 258 n) = .ok (.writePayload payload) :=
    (onlyTwoPairsOfFramesCoincide (.writePayload payload) .writePayload _ (decide_eq_true size) rfl spelt).2
  simp only [decodeTableWord, Nat.reduceDiv, decoded]

/-- Settles O4: the short words by evaluation, the page by its frame. -/
theorem tableWordsDecode : Obligations.TableWordsDecode :=
  ⟨rfl, rfl, rfl, rfl, rfl, rfl, rfl, rfl,
    decodeTableWord_page (by decide +kernel) (by decide +kernel), rfl, rfl⟩

end Sys2Proof
end

section
/-! PROOF. `Exchange` with a response that is no acknowledgment (41_transport.md R153, 60_exceptions.md R282,
R284). -/

namespace Sys2Proof.Machine

/-- An exchange whose whole response is in the queue and does not begin with `ACK`: it is consumed, and the
failure is raised (R97, R153). -/
theorem exchange_rejected (frame : List Byte) (n : Nat) (st : StepId) (s : State) (queued : n ≤ s.rxq.length)
    (other : s.rxq.head? ≠ some s.cfg.wire.ack) :
    exchange frame n st s = .fail (raiseFail .protocolNack st (exchanged frame n st s)) := by
  have ready : n ≤ (send frame { s with step := some st }).rxq.length := by simpa using queued
  have noAck : acknowledged s.cfg.wire (s.rxq.take n) = false := by
    simp only [acknowledged, List.head?_take, decide_eq_false_iff_not]
    split
    · simp
    · exact other
  unfold exchange
  simp only [waitForBytes_ready n _ ready, readBytes_ready n _ ready, emit_cfg, send_cfg, send_rxq, noAck]
  rfl

/-- The first failure of an operation, as `raise Fail` takes it (R284). -/
theorem raiseFail_first (reason : FailReason) (st : StepId) (s : State) (clear : s.failReason = .none) :
    raiseFail reason st s = { s with
      failReason := reason, failPass := s.pass, failStep := some st, failPage := failedPage s
      sess := if s.pass = .setup then .faulted else s.sess, ctl := .closing 0 } := by
  rw [raiseFail, recordFailure_first _ _ _ _ clear]

/-- Settles O21. -/
theorem exchangeRejected : Obligations.ExchangeRejected := by
  intro frame n st s _ queued other clear
  change (exchange frame n st s).outcome = _
  rw [exchange_rejected frame n st s queued other, raiseFail_first _ st (exchanged frame n st s) clear]
  rfl

end Sys2Proof.Machine
end

section
/-! PROOF. The Frame Codec and its address unit as operations (40_frame_codec.md R131 to R139): the frames, the sizes
they exist for, that every one of them is well-formed, and the address unit applied again and again. -/

namespace Sys2Proof.Machine

/-! ### Commands and addresses -/

/-- A byte and its complement XOR to `0xFF` (R92). -/
theorem xor_complement (op : Byte) : op ^^^ (op ^^^ 0xFF) = 0xFF := by
  rw [← BitVec.xor_assoc, BitVec.xor_self, BitVec.zero_xor]

/-- No byte is its own complement (R92). -/
theorem ne_complement (op : Byte) : op ≠ op ^^^ 0xFF := by
  intro same
  have zero : op ^^^ (op ^^^ 0xFF) = 0 := by rw [← same, BitVec.xor_self]; rfl
  rw [xor_complement] at zero
  exact absurd zero (by decide)

/-- The last byte of an address frame is the checksum of the four before it (R94, R131). -/
theorem buildAddressFrame_eq (a : FlashAddress) :
    buildAddressFrame a = addressBytes a ++ [xorAll (addressBytes a)] := by
  simp [buildAddressFrame, addressBytes, xorAll, BitVec.xor_assoc]

/-- Settles O8: the byte and its complement differ in every bit. -/
theorem buildCommandAnswersTheFrame : Obligations.BuildCommandAnswersTheFrame :=
  fun op _ => ⟨rfl, ne_complement op⟩

/-- Settles O9. -/
theorem buildAddressFrameAnswersTheFrame : Obligations.BuildAddressFrameAnswersTheFrame :=
  fun _ _ => rfl

/-! ### Data blocks -/

/-- The length byte of a data block (R95). -/
def lengthByte (payload : List Byte) : Byte := BitVec.ofNat 8 (payload.length - 1)

/-- Up to 256 bytes the length byte holds `N - 1` without loss. -/
theorem toNat_lengthByte {payload : List Byte} (most : payload.length ≤ 256) :
    (lengthByte payload).toNat = payload.length - 1 := by
  rw [lengthByte, BitVec.toNat_ofNat]
  omega

/-- For 1 to 256 bytes the data block is the length byte and the payload, with their checksum (R134). -/
theorem buildDataBlockFrame_of_size {payload : List Byte} (least : 1 ≤ payload.length)
    (most : payload.length ≤ 256) :
    buildDataBlockFrame payload =
      some (lengthByte payload :: payload ++ [xorAll (lengthByte payload :: payload)]) :=
  if_neg (by simp only [pageSize]; omega)

/-- The data block unit answers what `buildDataBlockFrame` does (R134, R135). -/
theorem exec_buildDataBlockFrame (payload : List Byte) (s : State) :
    exec (.buildDataBlockFrame payload) s = .next { s with unitOut := dataBlockOut payload } := rfl

/-- Settles O10, by whether a frame of that size exists. -/
theorem buildDataBlockFrameAnswersTheFrame : Obligations.BuildDataBlockFrameAnswersTheFrame := by
  intro payload s
  constructor
  · rintro ⟨least, most⟩
    refine ⟨lengthByte payload, xorAll (lengthByte payload :: payload), toNat_lengthByte most,
      xorAll_checked _, ?_⟩
    rw [exec_buildDataBlockFrame, dataBlockOut, buildDataBlockFrame_of_size least most]
  · intro bad
    rw [exec_buildDataBlockFrame, dataBlockOut, buildDataBlockFrame_badSize bad]

/-! ### Well-formed frames -/

theorem wellFormedCommand_buildCommand (op : Byte) : wellFormedCommand (buildCommand op) = true :=
  decide_eq_true (xor_complement op)

theorem wellFormedAddress_buildAddressFrame (a : FlashAddress) :
    wellFormedAddress (buildAddressFrame a) = true := by
  have checked : xorAll (buildAddressFrame a) = 0 := by rw [buildAddressFrame_eq, xorAll_checked]
  have length : (buildAddressFrame a).length = 5 := rfl
  simp only [wellFormedAddress, length, checked, decide_true, Bool.and_self]

/-- A length byte, the payload it counts and a checksum make a well-formed data block (R139). -/
theorem wellFormedDataBlock_checked {n : Byte} {payload : List Byte} (counted : payload.length = n.toNat + 1) :
    wellFormedDataBlock (n :: payload ++ [xorAll (n :: payload)]) = true := by
  have checked := xorAll_checked (n :: payload)
  have length : (payload ++ [xorAll (n :: payload)]).length + 1 = n.toNat + 3 := by
    rw [List.length_append, List.length_singleton, counted]
  rw [List.cons_append] at checked ⊢
  simp only [wellFormedDataBlock, length, checked, decide_true, Bool.and_self]

theorem wellFormedDataBlock_of_buildDataBlockFrame {payload f : List Byte}
    (built : buildDataBlockFrame payload = some f) : wellFormedDataBlock f = true := by
  by_cases bad : payload.length = 0 ∨ 256 < payload.length
  · rw [buildDataBlockFrame_badSize bad] at built
    cases built
  · have least : 1 ≤ payload.length := by omega
    have most : payload.length ≤ 256 := by omega
    rw [buildDataBlockFrame_of_size least most] at built
    cases built
    exact wellFormedDataBlock_checked (by rw [toNat_lengthByte most]; omega)

/-- Settles O11, a format at a time. -/
theorem builtFramesAreWellFormed : Obligations.BuiltFramesAreWellFormed :=
  ⟨wellFormedCommand_buildCommand, wellFormedAddress_buildAddressFrame,
    fun _ _ => wellFormedDataBlock_of_buildDataBlockFrame⟩

/-! ### The address unit -/

/-- No carry reaches byte 3 (R136). -/
@[simp] theorem incrementAddress_a3 (a : FlashAddress) : (incrementAddress a).a3 = a.a3 := by
  unfold incrementAddress
  by_cases carry2 : a.a2 + 1 = 0
  · by_cases carry1 : a.a1 + 1 = 0
    · simp only [carry2, carry1, if_true]
    · simp only [carry2, carry1, if_true, if_false]
  · simp only [carry2, if_false]

/-- The byte adder on the bytes of a value adds 256 to the value (R137). -/
theorem incrementAddress_be32 (v : Word32) : incrementAddress (be32 v) = be32 (v + 256) := by
  apply val32_inj
  rw [val32_incrementAddress, val32_be32, val32_be32]

/-- Settles O12. -/
theorem incrementAddressAnswersTheNextPage : Obligations.IncrementAddressAnswersTheNextPage :=
  fun a _ => ⟨incrementAddress a, rfl, val32_incrementAddress a, incrementAddress_a3 a⟩

/-- Settles O13, by induction on the number of applications: the last one adds 256 to the sum of the others. -/
theorem incrementAddressAddsUp : Obligations.IncrementAddressAddsUp := by
  intro v k
  induction k with
  | zero => exact congrArg be32 (BitVec.add_zero v).symm
  | succ k ih =>
    calc incrementAddress^[k + 1] (be32 v)
        = incrementAddress (be32 (v + BitVec.ofNat 32 (256 * k))) := by
          rw [Function.iterate_succ_apply', ih]
      _ = be32 (v + BitVec.ofNat 32 (256 * k) + 256) := incrementAddress_be32 _
      _ = be32 (v + BitVec.ofNat 32 (256 * (k + 1))) := by
          rw [Nat.mul_succ, BitVec.ofNat_add, BitVec.add_assoc]; rfl

end Sys2Proof.Machine
end

section
/-! PROOF. The transport and `Exchange` (41_transport.md R150 to R155): what a send, a wait and a read answer and
leave, what the first move of a wait comes to, and from them the ends of an exchange. -/

namespace Sys2Proof.Machine

/-! ### An exchange, however it ends -/

/-- Only the engine writes `TX` (R41). -/
theorem OthersMoved.tx {s t : State} (moved : OthersMoved s t) : t.tx = s.tx := by rw [moved.same]

/-- Every end of an exchange comes after its one send (R154). -/
theorem exchange_tx {frame : List Byte} {n : Nat} {st : StepId} {s t : State}
    (h : (exchange frame n st s).outcome = .next t) : t.tx = s.tx ++ frame := by
  have spec := exchange_spec frame n st s
  cases ended : exchange frame n st s with
  | ok u =>
    simp only [ended] at spec h
    cases h
    obtain ⟨v, moved, -, -, rfl⟩ := spec
    exact moved.tx
  | fail u =>
    simp only [ended] at spec h
    cases h
    obtain ⟨v, moved, ⟨-, rfl⟩ | ⟨-, -, rfl⟩⟩ := spec <;> rw [raiseFail_tx] <;> exact moved.tx
  | reset u =>
    simp only [ended] at spec h
    cases h
    obtain ⟨v, moved, rfl, -⟩ := spec
    exact moved.tx
  | fault f | refused r => rw [ended] at h; cases h

/-- Short of a reset a step is acknowledged or failed, and both keep the frame (R153, R284, R285). -/
theorem CommandEnd.exchangeFrame {n : Nat} {st : StepId} {s t : State} {f : Flow} (ended : CommandEnd n st s f)
    (h : f.outcome = .next t) (quiet : noReset s) (size : s.rxbuf.length = 257) : exchangeFrame n st s t := by
  cases ended <;> cases h
  case acknowledged underway => exact underway.exchangeFrame size
  case failed reason named underway => exact underway.raiseFail_exchangeFrame named size
  case reset mem _ => exact absurd mem quiet

/-- Settles O22. -/
theorem exchangeSendsItsFrameOnce : Obligations.ExchangeSendsItsFrameOnce :=
  fun frame n st s _ h => ⟨exchange_tx h, (exchange_commandEnd frame n st s).exchangeFrame h⟩

/-! ### `Send` and `WaitForBytes` -/

/-- Settles O14. -/
theorem sendAppendsEveryByte : Obligations.SendAppendsEveryByte := fun _ _ => rfl

/-- Settles O15: the first look at the queue ends the wait. -/
theorem waitAnswersAtOnceWhenBytesAreQueued : Obligations.WaitAnswersAtOnceWhenBytesAreQueued := by
  intro n s queued
  change execWaitForBytes n .serial s = _
  rw [execWaitForBytes, waitForBytes_ready n s queued]

/-- The link is the engine's while `OWN` or `BUSY` is 1 (R35, R46). -/
theorem linkTaken_iff (s : State) : linkTaken s = true ↔ s.own = true ∨ s.busy = true := by
  rw [linkTaken, Bool.or_eq_true, or_comm]

/-- Everything `WaitForBytes` answers short of a reset: the state the other agents leave, with `Avail` or
`Timeout` by the bytes queued there (R151). -/
theorem waitForBytes_answers {n : Nat} {d : Duration} {s t : State} (h : exec (.waitForBytes n d) s = .next t)
    (quiet : noReset s) :
    ∃ v answer, OthersMoved s v ∧ t = { v with unitOut := answer } ∧
      ((answer = .avail v.rxq.length ∧ n ≤ v.rxq.length) ∨ (answer = .timeout ∧ v.rxq.length < n)) := by
  change execWaitForBytes n d s = .next t at h
  have spec := waitForBytes_spec n s
  unfold execWaitForBytes at h
  cases ended : waitForBytes n s with
  | avail v =>
    simp only [ended] at spec h
    cases h
    obtain ⟨enough, moved⟩ := spec
    exact ⟨v, _, moved, rfl, .inl ⟨rfl, enough⟩⟩
  | timeout v =>
    simp only [ended] at spec h
    cases h
    obtain ⟨missing, moved⟩ := spec
    exact ⟨v, _, moved, rfl, .inr ⟨rfl, missing⟩⟩
  | reset v =>
    simp only [ended] at spec
    obtain ⟨_, _, _, mem⟩ := spec
    exact absurd mem quiet
  | broken => simp only [ended] at h; cases h

/-- Settles O16: only the other agents move during a wait, and they take no byte from a link that is owned. -/
theorem waitOutcomesHaveTheirConditions : Obligations.WaitOutcomesHaveTheirConditions := by
  intro n s t h quiet owned
  obtain ⟨v, answer, moved, rfl, judged⟩ := waitForBytes_answers h quiet
  have queue : s.rxq <+: v.rxq := moved.link ((linkTaken_iff s).mpr owned)
  refine ⟨queue, judged, ?_⟩
  obtain ⟨rxq, viol, start, abort, src, env, rfl, busy, sticky⟩ := moved.exists_eq
  have frame : stepFrame s { s with
      rxq := rxq, contractViol := viol, start := start, abort := abort, src := src, env := env } :=
    ⟨rfl, rfl, rfl, rfl, rfl, rfl, rfl, rfl, rfl, rfl, rfl, rfl, rfl, rfl, rfl, rfl, busy, sticky⟩
  exact ⟨frame, rfl, rfl, rfl, rfl, rfl, rfl, rfl, rfl, rfl, rfl, rfl⟩

/-! ### `ReadBytes` -/

/-- `ReadBytes` with the bytes there answers them (R152). -/
theorem exec_readBytes_ready {n : Nat} {s : State} (queued : n ≤ s.rxq.length) :
    exec (.readBytes n) s = .next { received n s with unitOut := .bytes (s.rxq.take n) } := by
  change execReadBytes n s = _
  rw [execReadBytes, readBytes_eq_received queued]

/-- `ReadBytes` with bytes missing is refused (R332; log 16). -/
theorem exec_readBytes_short {n : Nat} {s : State} (missing : s.rxq.length < n) :
    exec (.readBytes n) s = .refused .readBytesUnderflow := by
  have underflow : readBytes n s = none := if_neg (Nat.not_le.mpr missing)
  change execReadBytes n s = _
  rw [execReadBytes, underflow]

/-- A response that `RXBUF` can hold stands there whole, before the registers that keep their value (R23). -/
theorem fillRxbuf_fits {bytes old : List Byte} (size : old.length = 257) (fits : bytes.length ≤ 257) :
    fillRxbuf bytes old = bytes ++ old.drop bytes.length := by
  apply List.take_of_length_le
  rw [List.length_append, List.length_drop]
  omega

theorem received_rxbuf {n : Nat} {s : State} (size : s.rxbuf.length = 257) (fits : n ≤ 257)
    (queued : n ≤ s.rxq.length) : (received n s).rxbuf = s.rxq.take n ++ s.rxbuf.drop n := by
  have taken : (s.rxq.take n).length = n := List.length_take_of_le queued
  calc (received n s).rxbuf
      = s.rxq.take n ++ s.rxbuf.drop (s.rxq.take n).length := fillRxbuf_fits size (taken.trans_le fits)
    _ = s.rxq.take n ++ s.rxbuf.drop n := by rw [taken]

/-- The host sees the bytes read below their number (R23). -/
theorem hostRxbuf_received_lt {n i : Nat} {s : State} (size : s.rxbuf.length = 257) (fits : n ≤ 257)
    (queued : n ≤ s.rxq.length) (inside : i < n) : hostRxbuf (received n s) i = s.rxq[i]? := by
  have taken : (s.rxq.take n).length = n := List.length_take_of_le queued
  rw [hostRxbuf, if_pos (by omega), received_rxbuf size fits queued,
    List.getElem?_append_left (inside.trans_eq taken.symm), List.getElem?_take_of_lt inside]

/-- The host sees the old bytes from their number on (R23). -/
theorem hostRxbuf_received_ge {n i : Nat} {s : State} (size : s.rxbuf.length = 257) (beyond : n ≤ i) :
    hostRxbuf (received n s) i = hostRxbuf s i := by
  have kept : (received n s).rxbuf[i]? = s.rxbuf[i]? :=
    getElem?_fillRxbuf size ((List.length_take_le n s.rxq).trans beyond)
  rw [hostRxbuf, hostRxbuf, kept]

/-- `RXLEN` holds every response length (R5, R23). -/
theorem toNat_hostRxLen_received {n : Nat} (s : State) (fits : n ≤ 257) :
    (hostRxLen (received n s)).toNat = n := by
  change (BitVec.ofNat 9 n).toNat = n
  rw [BitVec.toNat_ofNat]
  omega

/-- Settles O17: what is read with the bytes there, what the host then sees, and the refusal with bytes
missing. -/
theorem readBytesTakesTheOldest : Obligations.ReadBytesTakesTheOldest := by
  intro n s
  refine ⟨fun queued fits size => ?_, fun t fits size h => ?_, exec_readBytes_short⟩
  · rw [exec_readBytes_ready queued, ← received_rxbuf size fits queued]
    rfl
  · by_cases queued : n ≤ s.rxq.length
    · rw [exec_readBytes_ready queued] at h
      cases h
      exact ⟨toNat_hostRxLen_received s fits, fun _ => hostRxbuf_received_lt size fits queued,
        fun _ => hostRxbuf_received_ge size⟩
    · rw [exec_readBytes_short (Nat.lt_of_not_le queued)] at h
      cases h

/-! ### An exchange, end by end -/

/-- Settles O18. -/
theorem exchangeAcknowledgedGoesOn : Obligations.ExchangeAcknowledgedGoesOn := by
  intro frame n st s least queued
  change (exchange frame n st s).outcome = _
  rw [exchange_answered frame n st s least queued]
  rfl

/-- With bytes missing and an append next, the wait is the wait after the append (R151). -/
theorem waitForBytes_target {n : Nat} {s : State} {bytes : List Byte} {later : List EnvMove}
    (next : s.env = .target bytes :: later) (missing : s.rxq.length < n) :
    waitForBytes n s = waitForBytes n { s with rxq := s.rxq ++ bytes, env := later } := by
  rw [waitForBytes, next, waitLoop, if_neg (Nat.not_le.mpr missing), if_neg (by simp)]
  rfl

/-- With bytes missing and the timer next, the wait is over (R151). -/
theorem waitForBytes_timer {n : Nat} {s : State} {later : List EnvMove} (next : s.env = .timer :: later)
    (missing : s.rxq.length < n) : waitForBytes n s = .timeout { s with env := later } := by
  rw [waitForBytes, next, waitLoop, if_neg (Nat.not_le.mpr missing), if_pos rfl]

/-- An exchange with bytes missing does not depend on whether an append came before it or is the first move of
its wait (R151, R153). -/
theorem exchange_target {frame : List Byte} {n : Nat} {st : StepId} {s : State} {bytes : List Byte}
    {later : List EnvMove} (next : s.env = .target bytes :: later) (missing : s.rxq.length < n) :
    exchange frame n st s = exchange frame n st { s with rxq := s.rxq ++ bytes, env := later } := by
  have wait := waitForBytes_target (s := send frame { s with step := some st }) next missing
  rw [exchange, wait]
  rfl

/-- An exchange whose wait the timer ends consumes nothing and fails (R153). -/
theorem exchange_timesOut (frame : List Byte) {n : Nat} (st : StepId) {s : State} {later : List EnvMove}
    (next : s.env = .timer :: later) (missing : s.rxq.length < n) :
    exchange frame n st s =
      .fail (raiseFail .timeout st (send frame { s with step := some st, env := later })) := by
  have wait := waitForBytes_timer (s := send frame { s with step := some st }) next missing
  rw [exchange, wait]
  rfl

/-- Settles O19: the append brings the exchange to the one whose answer is queued. -/
theorem exchangeTakesAnAnswerThatComesLater : Obligations.ExchangeTakesAnAnswerThatComesLater := by
  intro frame n st s bytes later next missing complete
  change (exchange frame n st s).outcome = _
  rw [exchange_target next missing, exchange_answered]
  · rfl
  · exact Nat.one_le_of_lt missing
  · exact complete

/-- Settles O20. -/
theorem exchangeTimesOut : Obligations.ExchangeTimesOut := by
  intro frame n st s later next missing clear
  change (exchange frame n st s).outcome = _
  rw [exchange_timesOut frame st next missing, raiseFail_first]
  · rfl
  · exact clear

end Sys2Proof.Machine
end

section
/-! PROOF. The sequence invariant (42_device_session.md R172, R177, R182, R184, R187, R188): every step keeps it,
and a state that meets it has a next state as long as the host contract is kept (R262). -/

namespace Sys2Proof.Machine

/-! ### Line actions that are allowed -/

/-- The state after a line action that is allowed (R170, R172, R182). -/
def lineDone (a : LineAction) (s : State) : State :=
  match a with
  | .take => { s with own := true }
  | .gpio line level => gpio line level s
  | .delay t => emit (.delay t) s
  | .opened => { s with sess := .modeAsserted, pass := .setup }
  | .closing => { s with sess := .closing, pass := .none, step := none }
  | .release => { s with own := false, sess := .idle }

/-- While the lines are owned every line action is allowed (R170). -/
theorem lineAction_owned (a : LineAction) {s : State} (own : s.own = true) : lineAction a s = .ok (lineDone a s) := by
  cases a with
  | gpio | delay => exact if_pos own
  | take | opened | closing | release => rfl

theorem eq_lineDone {a : LineAction} {s t : State} (h : lineAction a s = .ok t) : t = lineDone a s := by
  cases a with
  | gpio | delay =>
    simp only [lineAction] at h
    split at h <;> cases h
    rfl
  | take | opened | closing | release => cases h; rfl

/-! ### The invariant -/

theorem stepSession_opened (st : StepId) : ¬(stepSession st = .faulted ∨ stepSession st = .erasing) := by
  cases st <;> decide

/-- The steps of a page pass are issued in `Transferring` (R28). -/
theorem stepSession_page {st : StepId} (page : stepPass st ≠ .setup) : stepSession st = .transferring := by
  cases st <;> simp_all [stepPass, stepSession]

/-- Only a recorded failure in the setup pass leaves `SESS` at `Faulted`, with the close sequence next (R184), and no
rule enters `Erasing` (R186). -/
theorem ctl_of_faulted {s : State} (position : SequenceAt s) (out : s.sess = .faulted ∨ s.sess = .erasing) :
    s.ctl = .closing 0 := by
  cases hc : s.ctl with
  | command st =>
    simp only [SequenceAt, hc] at position
    obtain ⟨-, sess, -⟩ := position
    exact absurd (sess ▸ out) (stepSession_opened st)
  | closing k =>
    simp only [SequenceAt, hc] at position
    obtain ⟨-, -, -, -, later, -⟩ := position
    cases k with
    | zero => rfl
    | succ k => simp [(later (by omega)).1] at out
  | startPass verify => cases verify <;> simp_all [SequenceAt]
  | rest | entering | startPage | finishPage | finish => simp_all [SequenceAt]

/-- An action of `enter` brings the lines to where the next position expects them (R172). -/
theorem sequenceInv_enters {k : Nat} {a : LineAction} {s : State} (inv : SequenceInv s)
    (hc : s.ctl = .entering k) (action : enterScript[k]? = some a) :
    SequenceInv { lineDone a s with
      ctl := if k + 1 = enterScript.length then .command .sync else .entering (k + 1) } := by
  obtain ⟨position, result⟩ := inv
  simp only [SequenceAt, hc] at position
  obtain ⟨inside, busy, sess, own, pass, st, clear, mode, rst⟩ := position
  match k, inside with
  | 0, _ => cases action; exact ⟨⟨by decide, busy, sess, rfl, pass, st, clear, mode, rst⟩, result⟩
  | 1, _ => cases action; exact ⟨⟨by decide, busy, sess, own, pass, st, clear, rfl, rst⟩, result⟩
  | 2, _ => cases action; exact ⟨⟨by decide, busy, sess, own, pass, st, clear, mode, rfl⟩, result⟩
  | 3, _ => cases action; exact ⟨⟨by decide, busy, sess, own, pass, st, clear, mode, rst⟩, result⟩
  | 4, _ => cases action; exact ⟨⟨by decide, busy, sess, own, pass, st, clear, mode, rfl⟩, result⟩
  | 5, _ => cases action; exact ⟨⟨⟨busy, own, rst, mode⟩, rfl, rfl, clear⟩, result⟩

/-- An action of `closeSession` brings the lines to where the next position expects them (R182). -/
theorem sequenceInv_closes {k : Nat} {a : LineAction} {s : State} (inv : SequenceInv s)
    (hc : s.ctl = .closing k) (action : closeScript[k]? = some a) :
    SequenceInv { lineDone a s with
      ctl := if k + 1 = closeScript.length then .finish else .closing (k + 1) } := by
  obtain ⟨position, result⟩ := inv
  simp only [SequenceAt, hc] at position
  obtain ⟨inside, busy, own, -, closed, mode, rst⟩ := position
  match k, inside with
  | 0, _ => cases action; exact ⟨⟨by decide, busy, own, nofun, fun _ => ⟨rfl, rfl, rfl⟩, mode, rst⟩, result⟩
  | 1, _ => cases action; exact ⟨⟨by decide, busy, own, nofun, fun _ => closed le_rfl, mode, rfl⟩, result⟩
  | 2, _ => cases action; exact ⟨⟨by decide, busy, own, nofun, fun _ => closed (by decide), rfl, rst⟩, result⟩
  | 3, _ => cases action; exact ⟨⟨by decide, busy, own, nofun, fun _ => closed (by decide), mode, rfl⟩, result⟩
  | 4, _ => cases action; exact ⟨⟨by decide, busy, own, nofun, fun _ => closed (by decide), mode, rst⟩, result⟩
  | 5, _ => cases action; exact ⟨⟨by decide, busy, own, nofun, fun _ => closed (by decide), mode, rfl⟩, result⟩
  | 6, _ =>
    cases action
    obtain ⟨-, pass, st⟩ := closed (by decide)
    exact ⟨⟨busy, rfl, rfl, pass, st, rst, mode⟩, result⟩

/-- After an acknowledged step the session stands where the next position expects it (R28, R174, R175). -/
theorem sequenceInv_afterStep {n : Nat} {st : StepId} {s w : State} (inv : SequenceInv s)
    (hc : s.ctl = .command st) (underway : Underway n st s w) : SequenceInv (afterStep st w) := by
  obtain ⟨position, result⟩ := inv
  simp only [SequenceAt, hc] at position
  obtain ⟨held, sess, pass, clear⟩ := position
  cases underway
  cases st with
  | sync | extEraseParam => exact ⟨⟨held, rfl, pass, clear⟩, result⟩
  | get | getVersion | getId | eraseCmd | eraseParam | extEraseCmd | writeSetup | writeAddress | writePayload
  | readSetup | readAddress | readLength => exact ⟨⟨held, sess, pass, clear⟩, result⟩

/-- The close sequence may begin with the target held in its bootloader, from a page pass or from `Faulted` with the
failure on record (R182, R184, R187). -/
theorem sequenceInv_beforeClose {s : State} (hc : s.ctl = .closing 0) (held : inBootloader s)
    (result : s.resOk = false)
    (route : s.sess = .transferring ∨ (s.sess = .faulted ∧ s.failReason ≠ .none)) : SequenceInv s := by
  obtain ⟨busy, own, rst, mode⟩ := held
  refine ⟨?_, fun _ => result⟩
  simp only [SequenceAt, hc]
  exact ⟨by decide, busy, own, fun _ => route, nofun, mode, rst⟩

/-- A failure in the setup pass goes to `Faulted`, one in a page pass stays in `Transferring`; both close (R184,
R185, R284). -/
theorem sequenceInv_raiseFail {n : Nat} {st : StepId} {reason : FailReason} {s w : State} (inv : SequenceInv s)
    (hc : s.ctl = .command st) (named : reason ≠ .none) (underway : Underway n st s w) :
    SequenceInv (raiseFail reason st w) := by
  obtain ⟨position, result⟩ := inv
  simp only [SequenceAt, hc] at position
  obtain ⟨held, sess, pass, -⟩ := position
  have recorded : (raiseFail reason st w).failReason ≠ .none := recordFailure_recorded _ _ _ _ named
  cases underway
  refine sequenceInv_beforeClose rfl (by simpa [inBootloader] using held) (by simpa using result held.1) ?_
  by_cases setup : s.pass = .setup
  · exact .inr ⟨if_pos setup, recorded⟩
  · exact .inl ((if_neg setup).trans (sess.trans (stepSession_page (pass ▸ setup))))

theorem EngineMove.sequenceInv {s t : State} (move : EngineMove s t) (inv : SequenceInv s) : SequenceInv t := by
  have ⟨position, result⟩ := inv
  cases move with
  | advances hc underway => exact sequenceInv_afterStep inv hc underway
  | fails reason hc named underway => exact sequenceInv_raiseFail inv hc named underway
  | resets => exact ⟨⟨rfl, rfl, rfl, rfl, rfl, rfl, rfl⟩, nofun⟩
  | rests => exact inv
  | enters hc action done =>
    obtain rfl := eq_lineDone done
    exact sequenceInv_enters inv hc action
  | @closes k _ _ here action done =>
    have hc : s.ctl = .closing k := by
      obtain hc | ⟨rfl, out⟩ := here
      · exact hc
      · exact ctl_of_faulted position out
    obtain rfl := eq_lineDone done
    exact sequenceInv_closes inv hc action
  | @startsPass verify hc _ =>
    simp only [SequenceAt, hc] at position
    cases verify with
    | false =>
      obtain ⟨held, -, -, clear⟩ := position
      exact ⟨⟨held, rfl, rfl, clear⟩, result⟩
    | true =>
      obtain ⟨held, -, -, clear, -⟩ := position
      exact ⟨⟨held, rfl, rfl, clear⟩, result⟩
  | @exhausts verify hc _ =>
    simp only [SequenceAt, hc] at position
    obtain ⟨held, sess, pass, clear⟩ := position
    unfold afterPass
    split
    · rename_i verifyNext
      obtain ⟨rfl, enabled⟩ := verifyNext
      exact ⟨⟨held, sess, pass, clear, enabled⟩, result⟩
    · exact sequenceInv_beforeClose rfl held (result held.1) (.inl sess)
  | aborts hc _ _ =>
    simp only [SequenceAt, hc] at position
    obtain ⟨held, sess, -⟩ := position
    exact sequenceInv_beforeClose rfl (by simpa [inBootloader] using held) (by simpa using result held.1)
      (.inl (by simpa using sess))
  | @beginsPage verify hc _ _ =>
    simp only [SequenceAt, hc] at position
    cases verify <;> exact ⟨position, result⟩
  | @finishesPage verify hc =>
    simp only [SequenceAt, hc] at position
    cases verify <;> exact ⟨position, result⟩
  | finishes hc =>
    simp only [SequenceAt, hc] at position
    obtain ⟨-, sess, own, pass, st, rst, mode⟩ := position
    exact ⟨⟨rfl, sess, own, pass, st, rst, mode⟩, nofun⟩

/-- Settles O57: a case split over what a step can do. -/
theorem stepsKeepTheSequence : Obligations.StepsKeepTheSequence := by
  intro s t inv h
  cases step_stepped h with
  | accepted he hs hb hc =>
    obtain ⟨position, -⟩ := inv
    simp only [SequenceAt, hc] at position
    obtain ⟨-, sess, own, pass, st, rst, mode⟩ := position
    exact ⟨⟨by decide, rfl, sess, own, pass, st, rfl, mode, rst⟩, fun _ => rfl⟩
  | moved _ _ others =>
    obtain ⟨rxq, viol, start, abort, src, env, rfl, -⟩ := others.exists_eq
    exact inv
  | reset => exact ⟨⟨rfl, rfl, rfl, rfl, rfl, rfl, rfl⟩, nofun⟩
  | engine _ move => exact move.sequenceInv inv

/-! ### The next state -/

/-- A command step is its exchange with the step's frame, or the failure of a payload no data block can hold (R100,
R287). -/
theorem stepFlow_cases (st : StepId) (s : State) :
    (∃ frame, stepFrameBytes st s = some frame ∧ stepFlow st s = commandStep frame st s) ∨
      (stepFrameBytes st s = none ∧ stepFlow st s =
        if s.sess = stepSession st then .fail (raiseFail .invalidPayloadSize st { s with step := some st })
        else .refused .stepOutsideSession) := by
  cases st with
  | writePayload =>
    change (∃ frame, buildDataBlockFrame s.pbuf = some frame ∧ payloadStep s.pbuf .writePayload s = _) ∨
      (buildDataBlockFrame s.pbuf = none ∧ payloadStep s.pbuf .writePayload s = _)
    unfold payloadStep
    cases buildDataBlockFrame s.pbuf with
    | some frame => exact .inl ⟨frame, rfl, rfl⟩
    | none => exact .inr ⟨rfl, rfl⟩
  | sync | get | getVersion | getId | eraseCmd | eraseParam | extEraseCmd | extEraseParam | writeSetup
  | writeAddress | readSetup | readAddress | readLength => exact .inl ⟨_, rfl, rfl⟩

/-- A step issued in its session state stops only if the host contract is broken in its wait (R230, R328). -/
theorem stepFlow_answers {st : StepId} {s : State} (sess : s.sess = stepSession st) (kept : contractKept s) :
    ∃ t, (stepFlow st s).outcome = .next t := by
  obtain ⟨frame, -, flow⟩ | ⟨-, flow⟩ := stepFlow_cases st s
  · rw [flow, commandStep_inSession frame st s sess]
    have spec := exchange_spec frame (ackLen st) st s
    cases ended : exchange frame (ackLen st) st s with
    | ok t | fail t | reset t => exact ⟨t, rfl⟩
    | fault f => simp only [ended] at spec
    | refused r =>
      simp only [ended] at spec
      obtain ⟨-, m, mem, broken⟩ := spec
      simp [kept m mem] at broken
  · rw [flow, if_pos sess]
    exact ⟨_, rfl⟩

theorem mapNext_answers {f : State → State} {o : Host.Outcome State Fault Refusal} (h : ∃ t, o = .next t) :
    ∃ t, mapNext f o = .next t := by
  obtain ⟨t, rfl⟩ := h
  exact ⟨f t, rfl⟩

/-- Every position of `enter` has its action, and the lines are taken before they are driven (R170, R172). -/
theorem enterAction_answers {k : Nat} {s : State} (inv : SequenceInv s) (hc : s.ctl = .entering k) :
    ∃ t, enterAction k s = .next t := by
  obtain ⟨position, -⟩ := inv
  simp only [SequenceAt, hc] at position
  obtain ⟨inside, -, sess, own, -⟩ := position
  cases k with
  | zero =>
    rw [enterAction, if_neg (by simp [sess, own])]
    exact ⟨_, rfl⟩
  | succ k =>
    obtain ⟨a, action⟩ : ∃ a, enterScript[k + 1]? = some a := ⟨_, List.getElem?_eq_getElem inside⟩
    rw [enterAction, if_neg (by simp), action]
    exact mapNext_answers ⟨_, congrArg Flow.outcome (lineAction_owned a (by simpa using own))⟩

/-- Every position of `closeSession` has its action while the lines are owned (R170, R182). -/
theorem closeAction_answers {k : Nat} {s : State} (inside : k < closeScript.length) (own : s.own = true) :
    ∃ t, closeAction k s = .next t := by
  obtain ⟨a, action⟩ : ∃ a, closeScript[k]? = some a := ⟨_, List.getElem?_eq_getElem inside⟩
  rw [closeAction, if_neg (by simp [own]), action]
  exact mapNext_answers ⟨_, congrArg Flow.outcome (lineAction_owned a own)⟩

/-- A pass is reached with its precondition met (R240, R247). -/
theorem passMayStart_of_sequenceInv {verify : Bool} {s : State} (inv : SequenceInv s)
    (hc : s.ctl = .startPass verify) : passMayStart verify s = true := by
  obtain ⟨position, -⟩ := inv
  simp only [SequenceAt, hc] at position
  cases verify with
  | false =>
    obtain ⟨-, sess, -, clear⟩ := position
    simp [passMayStart, sess, clear]
  | true =>
    obtain ⟨-, sess, -, clear, enabled⟩ := position
    simp [passMayStart, sess, clear, enabled]

theorem sequenceAction_answers {s : State} (inv : SequenceInv s) (other : ∀ st, s.ctl ≠ .command st) :
    ∃ t, sequenceAction s = .next t := by
  have ⟨position, _⟩ := inv
  have closing {k : Nat} (hc : s.ctl = .closing k) : ∃ t, closeAction k s = .next t := by
    simp only [SequenceAt, hc] at position
    obtain ⟨inside, -, own, -⟩ := position
    exact closeAction_answers inside own
  unfold sequenceAction
  split
  · exact closing (ctl_of_faulted position ‹_›)
  cases hc : s.ctl with
  | rest =>
    simp only [SequenceAt, hc] at position
    obtain ⟨idle, -⟩ := position
    simp [idle]
  | entering k => exact enterAction_answers inv hc
  | command st => exact absurd hc (other st)
  | startPass verify => exact ⟨_, if_pos (passMayStart_of_sequenceInv inv hc)⟩
  | startPage verify =>
    dsimp only
    cases startPage verify s <;> exact ⟨_, rfl⟩
  | finishPage verify => exact ⟨_, rfl⟩
  | closing k => exact closing hc
  | finish => exact ⟨_, rfl⟩

theorem engineStep_answers {s : State} (inv : SequenceInv s) (kept : contractKept s) :
    ∃ t, engineStep s = .next t := by
  by_cases command : ∃ st, s.ctl = .command st
  · obtain ⟨st, hc⟩ := command
    obtain ⟨position, -⟩ := inv
    simp only [SequenceAt, hc] at position
    obtain ⟨-, sess, -⟩ := position
    simp only [engineStep, dueStep_command hc sess, exec_issue]
    exact mapNext_answers (stepFlow_answers sess kept)
  · have other : ∀ st, s.ctl ≠ .command st := fun st hc => command ⟨st, hc⟩
    rw [engineStep_sequence other]
    exact sequenceAction_answers inv other

/-- A move that keeps the host contract is made, whatever else it does. -/
theorem otherMove_answers {m : EnvMove} (s : State) (kept : m.keepsContract = true) :
    ∃ t, (otherMove m s).outcome = .next t := by
  have spec := otherMove_spec m s
  cases hm : otherMove m s with
  | on t | reset t => exact ⟨t, rfl⟩
  | broken => simp [hm, kept] at spec

/-- Settles O60: another agent's move is made, and the engine's turn finds what it needs at every position. -/
theorem stepsNeverStop : Obligations.StepsNeverStop := by
  intro s inv kept
  unfold step
  cases ht : otherTurn s with
  | none =>
    obtain ⟨env, eq, sub⟩ := engineTurn_exists_eq s
    simp only [eq]
    exact engineStep_answers inv fun m mem => kept m (sub mem)
  | some turn =>
    obtain ⟨later, he, hs⟩ := otherTurn_eq_some ht
    have made := otherMove_answers turn.2 (kept turn.1 (by simp [he]))
    simp only [otherAction]
    split
    · exact mapNext_answers made
    · exact made

end Sys2Proof.Machine
end

section
/-! PROOF. What a step sends (42_device_session.md R188, 43_command_set.md R230, R231): the frame of the command step
that is due, and nothing else. -/

namespace Sys2Proof.Machine

/-- The bytes a command step sends, none where no data block can hold the payload (R100, R287). -/
def stepBytes (st : StepId) (s : State) : List Byte := (stepFrameBytes st s).getD []

/-- A command step that goes on anywhere was issued in its session state (R230). -/
theorem sess_of_stepFlow {st : StepId} {s t : State} (h : (stepFlow st s).outcome = .next t) :
    s.sess = stepSession st := by
  by_contra outside
  obtain ⟨frame, -, flow⟩ | ⟨-, flow⟩ := stepFlow_cases st s
  · rw [flow, commandStep_outside frame st s outside] at h
    cases h
  · rw [flow, if_neg outside] at h
    cases h

/-- However a command step goes, it sends its frame once (R154). -/
theorem stepFlow_tx {st : StepId} {s t : State} (h : (stepFlow st s).outcome = .next t) :
    t.tx = s.tx ++ stepBytes st s := by
  have sess := sess_of_stepFlow h
  obtain ⟨frame, sent, flow⟩ | ⟨unsent, flow⟩ := stepFlow_cases st s
  · rw [flow, commandStep_inSession frame st s sess] at h
    rw [stepBytes, sent]
    exact exchange_tx h
  · rw [flow, if_pos sess] at h
    cases h
    simp [stepBytes, unsent]

theorem retireStep_tx (st : StepId) (s : State) : (retireStep st s).tx = s.tx := by
  by_cases hc : s.ctl = .command st
  · obtain ⟨sess, next, eq⟩ := afterStep_exists_eq st s
    rw [retireStep_here st s hc, eq]
  · rw [retireStep_moved st s hc]

theorem closeAction_tx {k : Nat} {s t : State} (h : closeAction k s = .next t) : t.tx = s.tx := by
  unfold closeAction at h
  split at h
  · cases h
  · split at h
    · cases h
    · obtain ⟨u, hu, rfl⟩ := mapNext_eq_next_iff.mp h
      obtain ⟨own, rst, mode, sess, pass, st, trace, rfl⟩ := lineAction_exists_eq (lineAction_outcome_eq_next hu)
      rfl

/-- Where no command step stands the engine's turn sends nothing. -/
theorem EngineMove.tx {s t : State} (move : EngineMove s t) (other : ∀ st, s.ctl ≠ .command st) : t.tx = s.tx := by
  cases move with
  | advances hc | fails _ hc | resets hc => exact absurd hc (other _)
  | enters _ _ done | closes _ _ done =>
    obtain ⟨own, rst, mode, sess, pass, st, trace, rfl⟩ := lineAction_exists_eq done
    rfl
  | @beginsPage verify | @finishesPage verify => cases verify <;> rfl
  | aborts => exact raiseAbort_tx _
  | rests | startsPass | exhausts | finishes => rfl

/-- The sequence's own actions send nothing: a command step that is not due is left for the close (R184, R186). -/
theorem sequenceAction_tx {s t : State} (h : sequenceAction s = .next t) : t.tx = s.tx := by
  by_cases command : ∃ st, s.ctl = .command st
  · obtain ⟨st, hc⟩ := command
    unfold sequenceAction at h
    split at h
    · exact closeAction_tx h
    · simp only [hc] at h
      cases h
  · exact (sequenceAction_engineMove h).tx fun st hc => command ⟨st, hc⟩

theorem otherAction_tx {m : EnvMove} {s t : State} (h : otherAction m s = .next t) : t.tx = s.tx := by
  unfold otherAction at h
  split at h
  · obtain ⟨u, hu, rfl⟩ := mapNext_eq_next_iff.mp h
    exact (otherMove_keeps hu).1
  · exact (otherMove_keeps h).1

/-- Settles O50: another agent sends nothing, the sequence's own actions send nothing, and the step that is due
sends its frame. -/
theorem onlyDueStepsSendAndOnlyTheirFrame : Obligations.OnlyDueStepsSendAndOnlyTheirFrame := by
  intro s t h
  unfold step at h
  cases turn : otherTurn s with
  | some other =>
    obtain ⟨later, he, hs⟩ := otherTurn_eq_some turn
    simp only [turn, hs] at h
    exact .inl (otherAction_tx (s := { s with env := later }) h)
  | none =>
    obtain ⟨env, eq, -⟩ := engineTurn_exists_eq s
    simp only [turn, engineStep] at h
    cases due : dueStep (engineTurn s) with
    | none =>
      simp only [due] at h
      exact .inl ((sequenceAction_tx h).trans (by rw [eq]))
    | some st =>
      simp only [due] at h
      obtain ⟨u, hu, rfl⟩ := mapNext_eq_next_iff.mp h
      rw [exec_issue] at hu
      have sent := (retireStep_tx st u).trans (stepFlow_tx hu)
      have sess := sess_of_stepFlow hu
      simp only [eq] at sent sess ⊢
      cases frame : stepFrameBytes st { s with env := env } with
      | none => exact .inl (by simpa [stepBytes, frame] using sent)
      | some bytes => exact .inr ⟨st, bytes, trivial, rfl, sess, frame, by simpa [stepBytes, frame] using sent⟩

end Sys2Proof.Machine
end

section
/-! PROOF. Command steps one after another (00_scope.md R104): `openSession`, `writePage` and `readPage` as lists of
steps, assertions over flows, and what such a list keeps, sends and comes to. -/

namespace Sys2Proof.Machine

/-! ### Assertions over flows -/

/-- Short of a reset: where the flow goes on `ok` holds, where it failed `fail` does. -/
def Flow.Ends (ok fail : State → Prop) : Flow → Prop
  | .ok s => ok s
  | .fail s => fail s
  | .reset _ => False
  | .fault _ => True
  | .refused _ => True

theorem Flow.Ends.andThen {f : Flow} {k : State → Flow} {ok fail ok' : State → Prop} (first : f.Ends ok fail)
    (rest : ∀ s, ok s → (k s).Ends ok' fail) : (f.andThen k).Ends ok' fail := by
  cases f with
  | ok s => exact rest s first
  | fail s | reset s | fault e | refused r => exact first

theorem Flow.Ends.always {f : Flow} {k : State → Flow} {P ok fail : State → Prop} (first : f.Ends P P)
    (rest : ∀ s, P s → (k s).Ends ok fail) : (f.always k).Ends ok fail := by
  cases f with
  | ok s | fail s => exact rest s first
  | reset s | fault e | refused r => exact first

theorem Flow.Ends.imp {f : Flow} {ok fail ok' fail' : State → Prop} (ended : f.Ends ok fail)
    (goesOn : ∀ s, ok s → ok' s) (failed : ∀ s, fail s → fail' s) : f.Ends ok' fail' := by
  cases f with
  | ok s => exact goesOn s ended
  | fail s => exact failed s ended
  | reset s | fault e | refused r => exact ended

theorem Flow.Ends.of_outcome {f : Flow} {ok fail : State → Prop} {t : State} (ended : f.Ends ok fail)
    (h : f.outcome = .next t) : ok t ∨ fail t := by
  cases f <;> cases h
  case ok => exact .inl ended
  case fail => exact .inr ended
  case reset => exact ended.elim

/-! ### Lists of steps -/

/-- `SESS` after an acknowledged step of a session (R174, R175). -/
def sessAfter (st : StepId) (sess : Sess) : Sess :=
  match st with
  | .sync => .synced
  | .extEraseParam => .ready
  | _ => sess

/-- Command steps one after another, each only if the one before was acknowledged (R104). -/
def stepsFlow : List StepId → State → Flow
  | [], s => .ok s
  | st :: later, s => (stepFlow st s).andThen fun t => stepsFlow later { t with sess := sessAfter st t.sess }

/-- The steps of `openSession` (R174, R176). -/
def openSteps : List StepId :=
  [.sync, .get, .getVersion, .getId, .eraseCmd, .eraseParam, .extEraseCmd, .extEraseParam]

theorem andThen_assoc (f : Flow) (k l : State → Flow) :
    (f.andThen k).andThen l = f.andThen fun s => (k s).andThen l := by
  cases f <;> rfl

theorem stepsFlow_last {st : StepId} (kept : ∀ sess, sessAfter st sess = sess) (s : State) :
    stepsFlow [st] s = stepFlow st s := by
  simp only [stepsFlow, kept]
  cases stepFlow st s <;> rfl

theorem flowReadPage_eq (s : State) : flowReadPage s = stepsFlow [.readSetup, .readAddress, .readLength] s := by
  have last : flowReadLength = stepsFlow [.readLength] :=
    funext fun t => (stepsFlow_last (st := .readLength) (fun _ => rfl) t).symm
  rw [flowReadPage, last]
  rfl

theorem flowWritePage_eq (s : State) : flowWritePage s = stepsFlow [.writeSetup, .writeAddress, .writePayload] s := by
  have last : (fun t => flowWritePayload t.pbuf t) = stepsFlow [.writePayload] :=
    funext fun t => (stepsFlow_last (st := .writePayload) (fun _ => rfl) t).symm
  rw [flowWritePage, last]
  rfl

theorem handshake_eq (s : State) : (flowHandshake s).andThen flowSetup = stepsFlow openSteps s := by
  rw [flowHandshake, andThen_assoc]
  rfl

/-! ### What a list of steps keeps -/

theorem stepFrame_refl (s : State) : stepFrame s s :=
  ⟨rfl, rfl, rfl, rfl, rfl, rfl, rfl, rfl, rfl, rfl, rfl, rfl, rfl, rfl, rfl, rfl, fun _ => rfl, id⟩

theorem stepFrame_trans {s t u : State} (first : stepFrame s t) (second : stepFrame t u) : stepFrame s u := by
  obtain ⟨h1, h2, h3, h4, h5, h6, h7, h8, h9, h10, busy, h12, h13, h14, h15, h16, src, viol⟩ := first
  obtain ⟨k1, k2, k3, k4, k5, k6, k7, k8, k9, k10, k11, k12, k13, k14, k15, k16, src', viol'⟩ := second
  exact ⟨k1.trans h1, k2.trans h2, k3.trans h3, k4.trans h4, k5.trans h5, k6.trans h6, k7.trans h7, k8.trans h8,
    k9.trans h9, k10.trans h10, k11.trans busy, k12.trans h12, k13.trans h13, k14.trans h14, k15.trans h15,
    k16.trans h16, fun on => (src' (busy.trans on)).trans (src on), fun set => viol' (viol set)⟩

/-- What steps with responses of at most `n` bytes leave, no reset being to come: the frame of every step, and
`RXBUF` from index `n` on (R23, R153). -/
structure StepsKept (n : Nat) (s t : State) : Prop where
  frame : stepFrame s t
  quiet : noReset t
  buffer : s.rxbuf.length = 257 → t.rxbuf.length = 257 ∧ ∀ i, n ≤ i → t.rxbuf[i]? = s.rxbuf[i]?

theorem StepsKept.refl (n : Nat) {s : State} (quiet : noReset s) : StepsKept n s s :=
  ⟨stepFrame_refl s, quiet, fun size => ⟨size, fun _ _ => rfl⟩⟩

theorem StepsKept.trans {n : Nat} {s t u : State} (first : StepsKept n s t) (second : StepsKept n t u) :
    StepsKept n s u := by
  refine ⟨stepFrame_trans first.frame second.frame, second.quiet, fun size => ?_⟩
  obtain ⟨size', same⟩ := first.buffer size
  obtain ⟨size'', same'⟩ := second.buffer size'
  exact ⟨size'', fun i beyond => (same' i beyond).trans (same i beyond)⟩

theorem Underway.stepsKept {m n : Nat} {st : StepId} {s w : State} (underway : Underway m st s w) (short : m ≤ n)
    (quiet : noReset w) : StepsKept n s w := by
  refine ⟨underway.stepFrame, quiet, ?_⟩
  cases underway with
  | intro _ _ _ _ _ _ _ _ _ _ _ _ buffer =>
    intro size
    obtain ⟨size', same⟩ := buffer size
    exact ⟨size', fun i beyond => same i (short.trans beyond)⟩

theorem StepsKept.after_raiseFail {n : Nat} {s w : State} (kept : StepsKept n s w) (reason : FailReason)
    (st : StepId) :
    StepsKept n s (raiseFail reason st w) :=
  ⟨raiseFail_stepFrame reason st kept.frame, by simpa [noReset] using kept.quiet, by simpa using kept.buffer⟩

/-- A step with no reset to come is acknowledged or failed; both ends have the frame sent (R153, R284). -/
theorem stepFlow_ends {st : StepId} {s : State} (quiet : noReset s) {ok fail : State → Prop}
    (acknowledged : ∀ w, Underway (ackLen st) st s w → noReset w → w.tx = s.tx ++ stepBytes st s → ok w)
    (failed : ∀ reason w, reason ≠ .none → Underway (ackLen st) st s w → noReset w →
      w.tx = s.tx ++ stepBytes st s → fail (raiseFail reason st w)) : (stepFlow st s).Ends ok fail := by
  have ended := stepFlow_commandEnd st s
  have sent {t : State} : (stepFlow st s).outcome = .next t → t.tx = s.tx ++ stepBytes st s := stepFlow_tx
  have grown {t : State} (h : (stepFlow st s).outcome = .next t) : noReset t := by
    rw [← exec_issue] at h
    exact fun mem => quiet ((exec_issue_historyGrows h).env mem)
  generalize stepFlow st s = f at ended sent grown
  cases ended with
  | @acknowledged w underway => exact acknowledged w underway (grown rfl) (sent rfl)
  | @failed w reason named underway =>
    have quiet' : noReset (raiseFail reason st w) := grown rfl
    have tx : (raiseFail reason st w).tx = _ := sent rfl
    exact failed reason w named underway (by simpa [noReset] using quiet') (by simpa using tx)
  | reset mem _ => exact absurd mem quiet
  | refused r => trivial

theorem stepsFlow_kept {n : Nat} {steps : List StepId} (short : ∀ st ∈ steps, ackLen st ≤ n) {s : State}
    (quiet : noReset s) : (stepsFlow steps s).Ends (StepsKept n s) (StepsKept n s) := by
  induction steps generalizing s with
  | nil => exact .refl n quiet
  | cons st later ih =>
    have fits : ackLen st ≤ n := short st List.mem_cons_self
    refine Flow.Ends.andThen (ok := StepsKept n s) (stepFlow_ends quiet ?_ ?_) fun t kept => ?_
    · exact fun w underway quiet' _ => underway.stepsKept fits quiet'
    · exact fun reason w _ underway quiet' _ => (underway.stepsKept fits quiet').after_raiseFail reason st
    · have next : StepsKept n s { t with sess := sessAfter st t.sess } := ⟨kept.frame, kept.quiet, kept.buffer⟩
      exact (ih (fun st mem => short st (List.mem_cons_of_mem _ mem)) next.quiet).imp (fun _ => next.trans)
        fun _ => next.trans

/-! ### A list of steps of the setup pass -/

/-- What the steps send depends only on registers that no step writes (R100, R211, R212, R221). -/
theorem stepBytes_eq {s t : State} (frame : stepFrame s t) (st : StepId) : stepBytes st t = stepBytes st s := by
  obtain ⟨addr, pbuf, -, -, -, -, -, -, -, -, -, -, -, -, cfg, -⟩ := frame
  have issued : issue st t = issue st s := by cases st <;> simp [issue, addr, pbuf]
  simp only [stepBytes, stepFrameBytes, issued, cfg]

/-- The steps from `s` on sent `bytes`, all of them acknowledged and nothing failed. -/
structure SetupDone (s : State) (bytes : List Byte) (sess : Sess) (t : State) : Prop where
  frame : stepFrame s t
  quiet : noReset t
  clear : t.failReason = .none
  sess : t.sess = sess
  tx : t.tx = s.tx ++ bytes

/-- A step of the setup pass failed after a leading part of `bytes` was sent: `Faulted`, with the record naming the
step in progress, and the close sequence next (R176, R184, R284). -/
structure SetupFailed (s : State) (bytes : List Byte) (t : State) : Prop where
  sess : t.sess = .faulted
  recorded : t.failReason ≠ .none
  pass : t.failPass = .setup
  step : t.failStep = t.step
  page : t.failPage = 0
  ctl : t.ctl = .closing 0
  tx : ∃ sent rest, t.tx = s.tx ++ sent ∧ bytes = sent ++ rest

theorem Underway.setupFailed {n : Nat} {st : StepId} {reason : FailReason} {s w : State} (setup : s.pass = .setup)
    (clear : s.failReason = .none) (named : reason ≠ .none) (underway : Underway n st s w)
    (sent : w.tx = s.tx ++ stepBytes st s) (later : List Byte) :
    SetupFailed s (stepBytes st s ++ later) (raiseFail reason st w) := by
  have first : w.failReason = .none := by cases underway; exact clear
  rw [raiseFail_first _ _ _ first]
  cases underway
  exact ⟨if_pos setup, named, setup, rfl, if_neg (by simp [setup]), rfl, _, later, sent, rfl⟩

theorem SetupDone.trans_failed {s t u : State} {first second : List Byte} {sess : Sess}
    (begun : SetupDone s first sess t) (failed : SetupFailed t second u) : SetupFailed s (first ++ second) u := by
  obtain ⟨hsess, recorded, pass, step, page, ctl, sent, rest, tx, split⟩ := failed
  exact ⟨hsess, recorded, pass, step, page, ctl, first ++ sent, rest, by rw [tx, begun.tx, List.append_assoc],
    by rw [split, List.append_assoc]⟩

theorem SetupDone.trans {s t u : State} {first second : List Byte} {sess sess' : Sess}
    (begun : SetupDone s first sess t) (done : SetupDone t second sess' u) : SetupDone s (first ++ second) sess' u :=
  ⟨stepFrame_trans begun.frame done.frame, done.quiet, done.clear, done.sess,
    by rw [done.tx, begun.tx, List.append_assoc]⟩

theorem stepsFlow_setup (steps : List StepId) {s : State} (setup : s.pass = .setup) (clear : s.failReason = .none)
    (quiet : noReset s) :
    (stepsFlow steps s).Ends
      (SetupDone s (steps.flatMap fun st => stepBytes st s) (steps.foldl (fun x st => sessAfter st x) s.sess))
      (SetupFailed s (steps.flatMap fun st => stepBytes st s)) := by
  induction steps generalizing s with
  | nil => exact ⟨stepFrame_refl s, quiet, clear, rfl, (List.append_nil _).symm⟩
  | cons st later ih =>
    refine Flow.Ends.andThen (ok := SetupDone s (stepBytes st s) s.sess) (stepFlow_ends quiet ?_ ?_) ?_
    · intro w underway quiet' sent
      have frame := underway.stepFrame
      cases underway
      exact ⟨frame, quiet', clear, rfl, sent⟩
    · exact fun reason w named underway _ sent => underway.setupFailed setup clear named sent _
    · intro t done
      have next : SetupDone s (stepBytes st s) (sessAfter st s.sess) { t with sess := sessAfter st t.sess } :=
        ⟨done.frame, done.quiet, done.clear, congrArg (sessAfter st) done.sess, done.tx⟩
      obtain ⟨-, -, -, pass, -⟩ := next.frame
      have same : (later.flatMap fun st' => stepBytes st' { t with sess := sessAfter st t.sess }) =
          later.flatMap fun st' => stepBytes st' s := by simp only [stepBytes_eq next.frame]
      have rest := ih (pass.trans setup) next.clear next.quiet
      rw [same, next.sess] at rest
      exact rest.imp (fun _ => next.trans) fun _ => next.trans_failed

/-! ### A list of steps with every response queued -/

/-- The queue answers the steps one after another (R97, R153). -/
def queueAnswers (ack : Byte) : List StepId → List Byte → Prop
  | [], _ => True
  | st :: later, q => ackLen st ≤ q.length ∧ q.head? = some ack ∧ queueAnswers ack later (q.drop (ackLen st))

/-- Each step is issued in its session state, if the ones before are acknowledged (R28, R174, R175). -/
def inOrder : List StepId → Sess → Bool
  | [], _ => true
  | st :: later, sess => decide (sess = stepSession st) && inOrder later (sessAfter st sess)

/-- The state after the steps, all of them acknowledged. -/
def afterSteps : List StepId → State → State
  | [], s => s
  | st :: later, s =>
    afterSteps later { exchanged (stepBytes st s) (ackLen st) st s with sess := sessAfter st s.sess }

theorem afterSteps_keeps (steps : List StepId) (s : State) :
    (afterSteps steps s).pass = s.pass ∧ (afterSteps steps s).own = s.own ∧
      (afterSteps steps s).modeLine = s.modeLine ∧ (afterSteps steps s).rstLine = s.rstLine ∧
      (afterSteps steps s).failReason = s.failReason ∧ (afterSteps steps s).addr = s.addr ∧
      (afterSteps steps s).pbuf = s.pbuf ∧ (afterSteps steps s).src = s.src ∧
      (afterSteps steps s).pageIdx = s.pageIdx ∧ (afterSteps steps s).wAtt = s.wAtt ∧
      (afterSteps steps s).vAtt = s.vAtt ∧ (afterSteps steps s).env = s.env := by
  induction steps generalizing s with
  | nil => exact ⟨rfl, rfl, rfl, rfl, rfl, rfl, rfl, rfl, rfl, rfl, rfl, rfl⟩
  | cons st later ih => exact ih _

theorem afterSteps_rxq (steps : List StepId) (s : State) :
    (afterSteps steps s).rxq = s.rxq.drop (steps.map ackLen).sum := by
  induction steps generalizing s with
  | nil => rfl
  | cons st later ih => exact (ih _).trans (by rw [List.map_cons, List.sum_cons, ← List.drop_drop]; rfl)

theorem afterSteps_tx (steps : List StepId) (s : State) :
    (afterSteps steps s).tx = s.tx ++ steps.flatMap fun st => stepBytes st s := by
  induction steps generalizing s with
  | nil => exact (List.append_nil _).symm
  | cons st later ih =>
    have frame : stepFrame s
        { exchanged (stepBytes st s) (ackLen st) st s with sess := sessAfter st s.sess } := stepFrame_refl s
    rw [afterSteps, ih, List.flatMap_cons, ← List.append_assoc]
    simp only [stepBytes_eq frame]
    rfl

/-- Every step but the one with a payload has a frame (R100). -/
theorem stepFlow_eq_commandStep {st : StepId} (fixed : st ≠ .writePayload) (s : State) :
    stepFlow st s = commandStep (stepBytes st s) st s := by
  cases st with
  | writePayload => exact absurd rfl fixed
  | sync | get | getVersion | getId | eraseCmd | eraseParam | extEraseCmd | extEraseParam | writeSetup
  | writeAddress | readSetup | readAddress | readLength => rfl

theorem stepsFlow_answered {steps : List StepId} {s : State} (order : inOrder steps s.sess = true)
    (fixed : .writePayload ∉ steps) (queue : queueAnswers s.cfg.wire.ack steps s.rxq) :
    stepsFlow steps s = .ok (afterSteps steps s) := by
  induction steps generalizing s with
  | nil => rfl
  | cons st later ih =>
    simp only [inOrder, Bool.and_eq_true, decide_eq_true_eq] at order
    obtain ⟨sess, order⟩ := order
    obtain ⟨queued, ack, queue⟩ := queue
    have flow : stepFlow st s = .ok (exchanged (stepBytes st s) (ackLen st) st s) :=
      (stepFlow_eq_commandStep (List.ne_of_not_mem_cons fixed).symm s).trans (commandStep_answered sess ⟨queued, ack⟩)
    rw [stepsFlow, flow]
    exact ih order (List.not_mem_of_not_mem_cons fixed) queue

end Sys2Proof.Machine
end

section
/-! PROOF. The session (42_device_session.md R170 to R188): `enter`, `openSession`, `closeSession`, the page
operations beside them (43_command_set.md R216, R226), and the close of every operation (R258, R291). -/

namespace Sys2Proof.Machine

/-! ### `enter` and `closeSession` -/

/-- The target held in its bootloader by `enter` (R172). -/
def entered (s : State) : State :=
  { s with
    own := true
    modeLine := true
    rstLine := true
    sess := .modeAsserted
    pass := .setup
    trace := s.trace ++ [.gpio .mode true, .gpio .rst false, .delay .settle, .gpio .rst true] }

theorem enterSession_eq {s : State} (sess : s.sess = .idle) (own : s.own = false) :
    enterSession s = .ok (entered s) := by
  have run : enterSession s = lineActions enterScript s := if_pos ⟨sess, own⟩
  rw [run]
  simp [enterScript, resetPulse, lineActions, lineAction, Flow.andThen, gpio, emit, entered]

/-- The target released by `closeSession` (R182). -/
def released (s : State) : State :=
  { s with
    own := false
    modeLine := false
    rstLine := true
    sess := .idle
    pass := .none
    step := none
    trace := s.trace ++
      [.gpio .rst false, .gpio .mode false, .gpio .rst false, .delay .settle, .gpio .rst true] }

theorem leaveSession_eq {s : State} (own : s.own = true) : leaveSession s = .ok (released s) := by
  have run : leaveSession s = lineActions closeScript s := if_pos own
  rw [run]
  simp [closeScript, resetPulse, lineActions, lineAction, Flow.andThen, gpio, emit, released, own]

/-- Settles O32. -/
theorem enterForcesTheBootloader : Obligations.EnterForcesTheBootloader :=
  fun _ sess own => congrArg Flow.outcome (enterSession_eq sess own)

/-- Settles O33. -/
theorem closeSessionReleasesTheTarget : Obligations.CloseSessionReleasesTheTarget :=
  fun _ own => congrArg Flow.outcome (leaveSession_eq own)

/-! ### `openSession` -/

theorem flowOpenSession_eq {s : State} (sess : s.sess = .idle) (own : s.own = false) :
    flowOpenSession s = stepsFlow openSteps (entered s) := by
  rw [flowOpenSession, enterSession_eq sess own]
  exact handshake_eq (entered s)

/-- A session that was opened, however far, was entered (R172). -/
theorem openSession_entered {s t : State} (h : exec .openSession s = .next t) :
    (stepsFlow openSteps (entered s)).outcome = .next t := by
  change (flowOpenSession s).outcome = _ at h
  by_cases idle : s.sess = .idle ∧ s.own = false
  · obtain ⟨sess, own⟩ := idle
    rwa [flowOpenSession_eq sess own] at h
  · have stopped : enterSession s = .fault .noTransition := if_neg idle
    rw [flowOpenSession, stopped] at h
    cases h

/-- The frames of the eight steps are the sixteen bytes (R100, R261). -/
theorem flatMap_stepBytes_openSteps (s : State) :
    (openSteps.flatMap fun st => stepBytes st s) = openBytes s.cfg.wire := rfl

/-- Thirty bytes, each response beginning with `ACK`, answer the eight steps (R5, R261). -/
theorem queueAnswers_openSteps {ack : Byte} {q : List Byte} (queued : 30 ≤ q.length)
    (acks : ∀ i ∈ [0, 1, 16, 21, 26, 27, 28, 29], q[i]? = some ack) : queueAnswers ack openSteps q := by
  simp only [List.forall_mem_cons] at acks
  obtain ⟨sync, get, getVersion, getId, eraseCmd, eraseParam, extEraseCmd, extEraseParam, -⟩ := acks
  simp only [openSteps, queueAnswers, ackLen, List.length_drop, List.drop_drop, List.head?_drop]
  exact ⟨by omega, List.head?_eq_getElem?.trans sync, by omega, get, by omega, getVersion, by omega, getId,
    by omega, eraseCmd, by omega, eraseParam, by omega, extEraseCmd, by omega, extEraseParam, trivial⟩

/-- Settles O34: the queue answers the eight steps. -/
theorem openSessionReachesReady : Obligations.OpenSessionReachesReady := by
  intro s sess own queued acks
  have flow : flowOpenSession s = .ok (afterSteps openSteps (entered s)) :=
    (flowOpenSession_eq sess own).trans
      (stepsFlow_answered rfl (by decide) (queueAnswers_openSteps queued acks))
  obtain ⟨pass, own, mode, rst, fail, addr, pbuf, src, page, wAtt, vAtt, env⟩ :=
    afterSteps_keeps openSteps (entered s)
  exact ⟨_, congrArg Flow.outcome flow, rfl, pass, rfl, own, mode, rst, afterSteps_tx _ _, afterSteps_rxq _ _, rfl,
    fail, addr, pbuf, src, page, wAtt, vAtt, env⟩

/-- Settles O35: the eight steps are steps of the setup pass. -/
theorem openSessionEndsReadyOrFaulted : Obligations.OpenSessionEndsReadyOrFaulted := by
  intro s t _ _ clear quiet h
  have ended := stepsFlow_setup openSteps (s := entered s) rfl clear quiet
  obtain done | failed := ended.of_outcome (openSession_entered h)
  · exact .inl ⟨done.sess, done.clear, done.tx⟩
  · obtain ⟨sess, recorded, pass, step, page, ctl, tx⟩ := failed
    exact .inr ⟨sess, recorded, pass, step, page, ctl, tx⟩

/-! ### What session and page operations keep -/

theorem stepsKept_of_outcome {n : Nat} {steps : List StepId} {s t : State} (short : ∀ st ∈ steps, ackLen st ≤ n)
    (quiet : noReset s) (h : (stepsFlow steps s).outcome = .next t) : StepsKept n s t := by
  obtain kept | kept := (stepsFlow_kept short quiet).of_outcome h <;> exact kept

/-- Settles O38: each is a list of command steps, `openSession` after `enter`. -/
theorem sessionAndPageOperationsKeepAllOtherState : Obligations.SessionAndPageOperationsKeepAllOtherState := by
  intro s t quiet size
  refine ⟨fun h => ?_, fun h => ?_, fun h => ?_⟩
  · have kept : StepsKept 15 (entered s) t := stepsKept_of_outcome (by decide) quiet (openSession_entered h)
    obtain ⟨addr, pbuf, chunk, pass, page, wAtt, wOk, vAtt, vOk, res, busy, own, rst, mode, cfg, out, src, viol⟩ :=
      kept.frame
    exact ⟨addr, pbuf, chunk, page, wAtt, wOk, vAtt, vOk, res, busy, cfg, out, own, mode, rst, pass, src, viol,
      (kept.buffer size).2⟩
  · change (flowWritePage s).outcome = _ at h
    rw [flowWritePage_eq] at h
    have kept : StepsKept 1 s t := stepsKept_of_outcome (by decide) quiet h
    exact ⟨kept.frame, (kept.buffer size).2⟩
  · change (flowReadPage s).outcome = _ at h
    rw [flowReadPage_eq] at h
    exact (stepsKept_of_outcome (n := 257) (fun st _ => (ackLen_bounds st).2) quiet h).frame

/-! ### The close of every operation -/

/-- The engine is idle, the lines are released, `RES_OK` agrees with the record, and the close sequence and `Done`
are the last events (R182, R258, R260). -/
def operationClosed (t : State) : Prop :=
  atRest t ∧ t.rstLine = true ∧ t.modeLine = false ∧ t.pass = .none ∧ t.step = none ∧
    (t.resOk = true ↔ t.failReason = .none) ∧
    ∃ before, t.trace = before ++ [.gpio .rst false, .gpio .mode false, .gpio .rst false, .delay .settle,
      .gpio .rst true, .done (result t)]

theorem operationClosed_finish_released (s : State) : operationClosed (finish (released s)) :=
  ⟨⟨rfl, rfl, rfl, rfl⟩, rfl, rfl, rfl, rfl, decide_eq_true_iff, s.trace, List.append_assoc ..⟩

theorem closeFlow_closed (s : State) : (closeFlow s).Ends operationClosed fun _ => False := by
  by_cases own : s.own = true
  · rw [closeFlow, leaveSession_eq own]
    exact operationClosed_finish_released s
  · have stopped : leaveSession s = .fault .noTransition := if_neg own
    rw [closeFlow, stopped]
    trivial

theorem HistoryGrows.quiet {s t : State} (grown : HistoryGrows s t) (quiet : noReset s) : noReset t :=
  fun mem => quiet (grown.env mem)

theorem stepsFlow_quiet (steps : List StepId) {s : State} (quiet : noReset s) :
    (stepsFlow steps s).Ends noReset noReset :=
  (stepsFlow_kept (n := 257) (fun st _ => (ackLen_bounds st).2) quiet).imp (fun _ => StepsKept.quiet)
    fun _ => StepsKept.quiet

theorem flowPage_quiet (verify : Bool) {s : State} (quiet : noReset s) :
    (flowPage verify s).Ends noReset noReset := by
  cases verify with
  | true =>
    change (flowReadPage s).Ends noReset noReset
    exact flowReadPage_eq s ▸ stepsFlow_quiet _ quiet
  | false =>
    change (flowWritePage s).Ends noReset noReset
    exact flowWritePage_eq s ▸ stepsFlow_quiet _ quiet

theorem pageLoop_quiet (verify : Bool) (bound : Nat) {s : State} (quiet : noReset s) :
    (pageLoop verify bound s).Ends noReset noReset := by
  induction bound generalizing s with
  | zero => exact quiet
  | succ bound ih =>
    have grown := startPage_historyGrows verify s
    unfold pageLoop
    cases started : startPage verify s with
    | exhausted t | aborted t =>
      simp only [started] at grown
      exact grown.quiet quiet
    | page t =>
      simp only [started] at grown
      exact (flowPage_quiet verify (grown.quiet quiet)).andThen fun u quiet' =>
        ih ((finishPage_historyGrows verify u).quiet quiet')

theorem flowPass_quiet (verify : Bool) {s : State} (quiet : noReset s) :
    (flowPass verify s).Ends noReset noReset := by
  unfold flowPass
  split
  · exact pageLoop_quiet verify _ quiet
  · trivial

theorem verifyFlow_closed {s : State} (quiet : noReset s) : (verifyFlow s).Ends operationClosed fun _ => False := by
  refine Flow.Ends.always (P := noReset) ?_ fun t _ => closeFlow_closed t
  split
  · exact flowPass_quiet true quiet
  · exact quiet

theorem writeFlow_closed {s : State} (quiet : noReset s) : (writeFlow s).Ends operationClosed fun _ => False := by
  refine Flow.Ends.always (P := noReset) ?_ fun t => verifyFlow_closed
  split
  · exact flowPass_quiet false quiet
  · exact quiet

/-- Settles O43: no part of the operation is cut off by a reset, so it comes to its close. -/
theorem everyOperationEndsClosed : Obligations.EveryOperationEndsClosed := by
  intro s t rest quiet h
  obtain ⟨-, idle, sess, own⟩ := rest
  have opened : (flowOpenSession (accept s)).Ends noReset noReset := by
    rw [flowOpenSession_eq (s := accept s) sess own]
    exact stepsFlow_quiet openSteps (s := entered (accept s)) quiet
  change (flowFlashAndVerify s).outcome = _ at h
  rw [flowFlashAndVerify_eq idle] at h
  obtain closed | none := (opened.always fun _ => writeFlow_closed).of_outcome h
  · exact closed
  · exact none.elim

end Sys2Proof.Machine
end

section
/-! PROOF. The command set (43_command_set.md R200 to R230): the fourteen steps with their acknowledgments queued, the
page operations over three of them each, and the refusal of a step out of its session state. -/

namespace Sys2Proof.Machine

/-! ### Single steps -/

/-- A step that is its frame's exchange goes on when its response is queued and acknowledged (R153, R230). -/
theorem commandStep_answered_outcome {frame : List Byte} {st : StepId} {s : State} (sess : s.sess = stepSession st)
    (queued : answered (ackLen st) s) :
    (commandStep frame st s).outcome = .next (exchanged frame (ackLen st) st s) :=
  congrArg Flow.outcome (commandStep_answered sess queued)

/-- The payload step of a full page sends `FF`, the page and the checksum over both (R95, R212). -/
theorem payloadStep_page {payload : List Byte} (size : payload.length = 256) (st : StepId) (s : State) :
    payloadStep payload st s = commandStep (0xFF :: payload ++ [xorAll (0xFF :: payload)]) st s :=
  payloadStep_fits payload _ st s (buildDataBlockFrame_page payload size)

/-- Settles O23. -/
theorem syncAcknowledged : Obligations.SyncAcknowledged :=
  fun _ sess => commandStep_answered_outcome (st := .sync) sess

/-- Settles O24: all seven are issued in `Synced`, each with its own frame and response length. -/
theorem setupStepsAcknowledged : Obligations.SetupStepsAcknowledged := fun _ sess =>
  ⟨commandStep_answered_outcome (st := .get) sess,
    commandStep_answered_outcome (st := .getVersion) sess,
    commandStep_answered_outcome (st := .getId) sess,
    commandStep_answered_outcome (st := .eraseCmd) sess,
    commandStep_answered_outcome (st := .eraseParam) sess,
    commandStep_answered_outcome (st := .extEraseCmd) sess,
    commandStep_answered_outcome (st := .extEraseParam) sess⟩

/-- Settles O25: the payload is a full page, so its step has a frame. -/
theorem writeStepsAcknowledged : Obligations.WriteStepsAcknowledged := by
  intro s a payload sess queued size
  refine ⟨?setup, ?address, ?payload⟩
  case setup => exact commandStep_answered_outcome (st := .writeSetup) sess queued
  case address => exact commandStep_answered_outcome (st := .writeAddress) sess queued
  case payload =>
    change (payloadStep payload .writePayload s).outcome = _
    rw [payloadStep_page size]
    exact commandStep_answered_outcome (st := .writePayload) sess queued

/-- Settles O26: all three are issued in `Transferring`; the last one's response is the acknowledgment and a page. -/
theorem readStepsAcknowledged : Obligations.ReadStepsAcknowledged := fun _ _ sess =>
  ⟨commandStep_answered_outcome (st := .readSetup) sess,
    commandStep_answered_outcome (st := .readAddress) sess,
    commandStep_answered_outcome (st := .readLength) sess⟩

/-- Settles O30: whether the step has a frame or not, its session state is tested before anything is sent. -/
theorem commandStepsOutOfPlaceAreRefused : Obligations.CommandStepsOutOfPlaceAreRefused := by
  intro st s outside
  rw [exec_issue]
  obtain ⟨frame, -, flow⟩ | ⟨-, flow⟩ := stepFlow_cases st s
  · rw [flow, commandStep_outside frame st s outside, Flow.outcome]
  · rw [flow, if_neg outside, Flow.outcome]

/-! ### Page operations -/

/-- A queue whose first three bytes are acknowledgments (R216, R226). -/
theorem eq_three_append_drop_of_getElem? {a : Byte} {q : List Byte} (acks : ∀ i ∈ [0, 1, 2], q[i]? = some a) :
    q = [a, a, a] ++ q.drop 3 := by
  obtain ⟨first, second, third⟩ : q[0]? = some a ∧ q[1]? = some a ∧ q[2]? = some a := by simpa using acks
  match q with
  | [] | [_] | [_, _] => simp at third
  | x :: y :: z :: rest => simp_all

/-- Settles O36: `pageSent` is the state `writePage` comes to. -/
theorem writePageSendsThePage : Obligations.WritePageSendsThePage := by
  intro s sess size acks
  have flow : flowWritePage s = .ok (pageSent (s.rxq.drop 3) s) :=
    flowWritePage_answered sess size (eq_three_append_drop_of_getElem? acks)
  exact ⟨_, congrArg Flow.outcome flow, rfl, rfl, rfl, sess, rfl, rfl, rfl, rfl, stepFrame_refl s⟩

/-- Settles O37: behind the three acknowledgments the next 256 bytes are the page, and `pageRead` is the state
`readPage` comes to. -/
theorem readPageFetchesThePage : Obligations.ReadPageFetchesThePage := by
  intro s sess long acks
  have size : ((s.rxq.drop 3).take 256).length = 256 := by
    rw [List.length_take, List.length_drop]
    omega
  have queue : s.rxq =
      [s.cfg.wire.ack, s.cfg.wire.ack, s.cfg.wire.ack] ++ (s.rxq.drop 3).take 256 ++ s.rxq.drop 259 := by
    have beyond : s.rxq.drop 259 = (s.rxq.drop 3).drop 256 := (List.drop_drop (i := 256) (j := 3)).symm
    rw [List.append_assoc, beyond, List.take_append_drop]
    exact eq_three_append_drop_of_getElem? acks
  have flow : flowReadPage s = .ok (pageRead ((s.rxq.drop 3).take 256) (s.rxq.drop 259) s) :=
    flowReadPage_answered sess size queue
  exact ⟨_, congrArg Flow.outcome flow, rfl, rfl, List.take_of_length_le size.le, rfl, rfl, sess, rfl, rfl, rfl, rfl,
    stepFrame_refl s⟩

end Sys2Proof.Machine
end

section
/-! PROOF. `ABORT` is sampled at the start of a page only (44_transfer_orchestrator.md R256, R289): everywhere else a
step of the state with `ABORT` lowered is the step of the state with `ABORT` lowered. -/

namespace Sys2Proof.Machine

/-! ### States and ends without `ABORT` -/

/-- `s` with `ABORT` low: what a state is but for the level of `ABORT`. -/
def lowered (s : State) : State := { s with abort := false }

/-- The end of a move, but for the level of `ABORT`. -/
def Moved.lowered : Moved → Moved
  | .on s => .on (Machine.lowered s)
  | .reset s => .reset (Machine.lowered s)
  | .broken => .broken

/-- The end of a wait, but for the level of `ABORT`. -/
def Waited.lowered : Waited → Waited
  | .avail s => .avail (Machine.lowered s)
  | .timeout s => .timeout (Machine.lowered s)
  | .reset s => .reset (Machine.lowered s)
  | .broken => .broken

/-- The end of an operation, but for the level of `ABORT`. -/
def Flow.lowered : Flow → Flow
  | .ok s => .ok (Machine.lowered s)
  | .fail s => .fail (Machine.lowered s)
  | .reset s => .reset (Machine.lowered s)
  | .fault e => .fault e
  | .refused r => .refused r

theorem mapNext_mapNext (f g : State → State) (o : Host.Outcome State Fault Refusal) :
    mapNext f (mapNext g o) = mapNext (fun s => f (g s)) o := by
  cases o <;> rfl

theorem Flow.outcome_lowered (f : Flow) : f.lowered.outcome = mapNext Machine.lowered f.outcome := by
  cases f <;> rfl

theorem Moved.outcome_lowered (m : Moved) : m.lowered.outcome = mapNext Machine.lowered m.outcome := by
  cases m <;> rfl

/-- What commutes with the lowering does not tell apart two outcomes that differ in `ABORT` alone. -/
theorem mapNext_lowered_congr {f : State → State} (commutes : ∀ s, f (lowered s) = lowered (f s))
    {o o' : Host.Outcome State Fault Refusal} (same : mapNext lowered o = mapNext lowered o') :
    mapNext lowered (mapNext f o) = mapNext lowered (mapNext f o') := by
  have pushed (o : Host.Outcome State Fault Refusal) :
      mapNext lowered (mapNext f o) = mapNext f (mapNext lowered o) := by
    simp only [mapNext_mapNext, commutes]
  rw [pushed, pushed, same]

/-! ### The exchange -/

theorem otherMove_lowered (m : EnvMove) (s : State) :
    (otherMove m (lowered s)).lowered = (otherMove m s).lowered := by
  cases m with
  | attach image pos =>
    change Moved.lowered (if s.busy = false ∧ image.length < 2 ^ 32 ∧ pos ≤ image.length then _ else _) =
      Moved.lowered (if s.busy = false ∧ image.length < 2 ^ 32 ∧ pos ≤ image.length then _ else _)
    split <;> rfl
  | takeLink | driveLines =>
    change Moved.lowered (if linkTaken s = true then _ else _) =
      Moved.lowered (if linkTaken s = true then _ else _)
    split <;> rfl
  | engine | timer | target | start | abort | reset => rfl

/-- How a wait for `n` bytes goes on after a move, with the moves `rest` to come (R151). -/
def Moved.waitOn (n : Nat) (rest : List EnvMove) : Moved → Waited
  | .on s => waitLoop n rest s
  | .reset s => .reset s
  | .broken => .broken

theorem waitLoop_cons (n : Nat) (m : EnvMove) (rest : List EnvMove) (s : State) :
    waitLoop n (m :: rest) s =
      if n ≤ s.rxq.length then .avail s
      else if m = .timer then .timeout { s with env := rest }
      else (otherMove m { s with env := rest }).waitOn n rest := by
  rw [waitLoop]
  cases otherMove m { s with env := rest } <;> rfl

/-- Which bytes a wait finds and how it ends does not depend on `ABORT` (R151). -/
theorem waitLoop_lowered (n : Nat) (moves : List EnvMove) (s : State) :
    (waitLoop n moves (lowered s)).lowered = (waitLoop n moves s).lowered := by
  have queue (s : State) : (lowered s).rxq = s.rxq := rfl
  induction moves generalizing s with
  | nil =>
    rw [waitLoop, waitLoop, queue]
    split <;> rfl
  | cons m rest ih =>
    have goesOn {a b : Moved} (same : a.lowered = b.lowered) :
        (a.waitOn n rest).lowered = (b.waitOn n rest).lowered := by
      cases a <;> cases b <;>
        simp only [Moved.lowered, reduceCtorEq, Moved.on.injEq, Moved.reset.injEq] at same
      case on.on u v => 
        calc (waitLoop n rest u).lowered
            = (waitLoop n rest (lowered u)).lowered := (ih u).symm
          _ = (waitLoop n rest (lowered v)).lowered := by rw [same]
          _ = (waitLoop n rest v).lowered := ih v
      case reset.reset u v => exact congrArg Waited.reset same
      case broken.broken => rfl
    rw [waitLoop_cons, waitLoop_cons, queue]
    split
    · rfl
    split
    · rfl
    exact goesOn (otherMove_lowered m { s with env := rest })

/-- What `Exchange` makes of the end of its wait (R153). -/
def exchangeEnd (n : Nat) (st : StepId) : Waited → Flow
  | .timeout t => .fail (raiseFail .timeout st t)
  | .avail t =>
    match readBytes n t with
    | some (r, u) => if acknowledged u.cfg.wire r then .ok u else .fail (raiseFail .protocolNack st u)
    | none => .refused .readBytesUnderflow
  | .reset t => .reset t
  | .broken => .refused .contractBroken

theorem exchange_eq_exchangeEnd (frame : List Byte) (n : Nat) (st : StepId) (s : State) :
    exchange frame n st s = exchangeEnd n st (waitForBytes n (send frame { s with step := some st })) := by
  unfold exchange exchangeEnd
  cases waitForBytes n (send frame { s with step := some st }) <;> rfl

theorem raiseFail_lowered (reason : FailReason) (st : StepId) (s : State) :
    raiseFail reason st (lowered s) = lowered (raiseFail reason st s) := by
  by_cases clear : s.failReason = .none
  · rw [raiseFail_first _ st s clear, raiseFail_first _ st (lowered s) clear]
    rfl
  · rw [raiseFail, raiseFail, recordFailure_later _ _ _ s clear, recordFailure_later _ _ _ (lowered s) clear]
    rfl

theorem exchangeEnd_lowered (n : Nat) (st : StepId) (w : Waited) :
    exchangeEnd n st w.lowered = (exchangeEnd n st w).lowered := by
  cases w with
  | timeout s => exact congrArg Flow.fail (raiseFail_lowered _ st s)
  | reset s | broken => rfl
  | avail s =>
    simp only [Waited.lowered, exchangeEnd]
    by_cases queued : n ≤ s.rxq.length
    · rw [readBytes_eq_received queued, readBytes_eq_received (s := lowered s) queued]
      change (if acknowledged s.cfg.wire (s.rxq.take n) then _ else _) =
        Flow.lowered (if acknowledged s.cfg.wire (s.rxq.take n) then _ else _)
      split
      · rfl
      · exact congrArg Flow.fail (raiseFail_lowered _ st (received n s))
    · simp [readBytes, queued, lowered, Flow.lowered]

theorem exchange_lowered (frame : List Byte) (n : Nat) (st : StepId) (s : State) :
    (exchange frame n st (lowered s)).lowered = (exchange frame n st s).lowered := by
  have wait : (waitForBytes n (send frame { lowered s with step := some st })).lowered =
      (waitForBytes n (send frame { s with step := some st })).lowered :=
    waitLoop_lowered n s.env (send frame { s with step := some st })
  rw [exchange_eq_exchangeEnd, exchange_eq_exchangeEnd, ← exchangeEnd_lowered, wait, exchangeEnd_lowered]

/-! ### Command steps -/

theorem commandStep_lowered (frame : List Byte) (st : StepId) (s : State) :
    (commandStep frame st (lowered s)).lowered = (commandStep frame st s).lowered := by
  by_cases sess : s.sess = stepSession st
  · rw [commandStep_inSession frame st s sess, commandStep_inSession frame st (lowered s) sess, exchange_lowered]
  · rw [commandStep_outside frame st s sess, commandStep_outside frame st (lowered s) sess]

theorem payloadStep_lowered (payload : List Byte) (st : StepId) (s : State) :
    (payloadStep payload st (lowered s)).lowered = (payloadStep payload st s).lowered := by
  unfold payloadStep
  cases buildDataBlockFrame payload with
  | some frame => exact commandStep_lowered frame st s
  | none =>
    change Flow.lowered (if s.sess = stepSession st then _ else _) =
      Flow.lowered (if s.sess = stepSession st then _ else _)
    split
    · have failed : raiseFail .invalidPayloadSize st { lowered s with step := some st } =
          lowered (raiseFail .invalidPayloadSize st { s with step := some st }) :=
        raiseFail_lowered _ st { s with step := some st }
      rw [failed]
      rfl
    · rfl

theorem stepFlow_lowered (st : StepId) (s : State) :
    (stepFlow st (lowered s)).lowered = (stepFlow st s).lowered := by
  cases st with
  | writePayload => exact payloadStep_lowered s.pbuf _ s
  | sync | get | getVersion | getId | eraseCmd | eraseParam | extEraseCmd | extEraseParam | writeSetup
  | writeAddress | readSetup | readAddress | readLength => exact commandStep_lowered _ _ s

theorem retireStep_lowered (st : StepId) (s : State) :
    retireStep st (lowered s) = lowered (retireStep st s) := by
  by_cases here : s.ctl = .command st
  · rw [retireStep_here st s here, retireStep_here st (lowered s) here]
    cases st <;> rfl
  · rw [retireStep_moved st s here, retireStep_moved st (lowered s) here]

/-! ### The sequence's own actions -/

theorem lineAction_lowered (a : LineAction) (s : State) :
    lineAction a (lowered s) = (lineAction a s).lowered := by
  cases a with
  | gpio line level =>
    change (if s.own then _ else _) = Flow.lowered (if s.own then _ else _)
    cases line <;> split <;> rfl
  | delay d =>
    change (if s.own then _ else _) = Flow.lowered (if s.own then _ else _)
    split <;> rfl
  | take | opened | closing | release => rfl

/-- A line action with the move of control that the sequence adds to it. -/
theorem lineAction_moved_lowered (a : LineAction) (next : Ctl) (s : State) :
    mapNext (fun t => { t with ctl := next }) (lineAction a (lowered s)).outcome =
      mapNext lowered (mapNext (fun t => { t with ctl := next }) (lineAction a s).outcome) := by
  rw [lineAction_lowered, Flow.outcome_lowered, mapNext_mapNext, mapNext_mapNext]
  rfl

theorem enterAction_lowered (k : Nat) (s : State) : enterAction k (lowered s) = mapNext lowered (enterAction k s) := by
  unfold enterAction
  change (if k = 0 ∧ ¬(s.sess = .idle ∧ s.own = false) then _ else _) = _
  split
  · rfl
  cases enterScript[k]? with
  | none => rfl
  | some a => exact lineAction_moved_lowered a _ s

theorem closeAction_lowered (k : Nat) (s : State) : closeAction k (lowered s) = mapNext lowered (closeAction k s) := by
  unfold closeAction
  change (if k = 0 ∧ s.own = false then _ else _) = _
  split
  · rfl
  cases closeScript[k]? with
  | none => rfl
  | some a => exact lineAction_moved_lowered a _ s

theorem finishPage_lowered (verify : Bool) (s : State) :
    finishPage verify (lowered s) = lowered (finishPage verify s) := by
  cases verify <;> rfl

/-- The sequence's own actions look at `ABORT` only before a page that exists (R256). -/
theorem sequenceAction_lowered {s : State} (unsampled : ∀ verify, s.ctl = .startPage verify → nextChunk s.src = []) :
    sequenceAction (lowered s) = mapNext lowered (sequenceAction s) := by
  unfold sequenceAction
  change (if s.sess = .faulted ∨ s.sess = .erasing then _ else _) = _
  split
  · exact closeAction_lowered 0 s
  have control : (lowered s).ctl = s.ctl := rfl
  rw [control]
  cases hc : s.ctl with
  | rest =>
    change (if s.busy then _ else _) = mapNext lowered (if s.busy then _ else _)
    split <;> rfl
  | entering k => exact enterAction_lowered k s
  | command st => rfl
  | startPass verify =>
    change (if passMayStart verify s then _ else _) = mapNext lowered (if passMayStart verify s then _ else _)
    split <;> rfl
  | startPage verify =>
    have empty := unsampled verify hc
    simp only [startPage_exhausted empty, startPage_exhausted (s := lowered s) empty]
    rfl
  | finishPage verify => simp only [finishPage_lowered]; rfl
  | closing k => exact closeAction_lowered k s
  | finish => rfl

/-! ### The step -/

theorem engineStep_lowered {s : State} (unsampled : ∀ verify, s.ctl = .startPage verify → nextChunk s.src = []) :
    mapNext lowered (engineStep (lowered s)) = mapNext lowered (engineStep s) := by
  have due : dueStep (lowered s) = dueStep s := rfl
  unfold engineStep
  rw [due]
  cases dueStep s with
  | none =>
    simp only [sequenceAction_lowered unsampled, mapNext_mapNext]
    rfl
  | some st =>
    have same := congrArg Flow.outcome (stepFlow_lowered st s)
    rw [Flow.outcome_lowered, Flow.outcome_lowered] at same
    simp only [exec_issue]
    exact mapNext_lowered_congr (retireStep_lowered st) same

theorem otherAction_lowered (m : EnvMove) (s : State) :
    mapNext lowered (otherAction m (lowered s)) = mapNext lowered (otherAction m s) := by
  have accepted : startAccepted m (lowered s) = startAccepted m s := rfl
  have same := congrArg Moved.outcome (otherMove_lowered m s)
  rw [Moved.outcome_lowered, Moved.outcome_lowered] at same
  unfold otherAction
  rw [accepted]
  split
  · exact mapNext_lowered_congr (f := fun t => { accept t with ctl := .entering 0 }) (fun _ => rfl) same
  · exact same

theorem otherTurn_lowered (s : State) :
    otherTurn (lowered s) = (otherTurn s).map fun turn => (turn.1, lowered turn.2) := by
  unfold otherTurn
  have schedule : (lowered s).env = s.env := rfl
  rw [schedule]
  cases s.env with
  | nil => rfl
  | cons m rest => dsimp only; split <;> rfl

theorem engineTurn_lowered (s : State) : engineTurn (lowered s) = lowered (engineTurn s) := by
  unfold engineTurn
  have schedule : (lowered s).env = s.env := rfl
  rw [schedule]
  cases s.env with
  | nil => rfl
  | cons m rest => dsimp only; split <;> rfl

/-- Another agent's turn is its move; the engine's turn spends its mark and leaves position and source. -/
theorem step_lowered {s : State} (unsampled : ∀ verify, s.ctl = .startPage verify → nextChunk s.src = []) :
    mapNext lowered (step (lowered s)) = mapNext lowered (step s) := by
  unfold step
  rw [otherTurn_lowered]
  cases otherTurn s with
  | some turn => exact otherAction_lowered turn.1 turn.2
  | none =>
    obtain ⟨env, eq, -⟩ := engineTurn_exists_eq s
    simp only [Option.map_none, engineTurn_lowered]
    exact engineStep_lowered (by rw [eq]; exact unsampled)

/-- Settles O49: both steps are, but for `ABORT`, the step of the state with `ABORT` low. -/
theorem abortIsSeenAtPageStartsOnly : Obligations.AbortIsSeenAtPageStartsOnly := by
  intro s level unsampled
  exact (step_lowered (s := { s with abort := level }) unsampled).symm.trans (step_lowered unsampled)

end Sys2Proof.Machine
end

section
/-! PROOF. The abort check and the end of every operation (44_transfer_orchestrator.md R256, R262). -/

namespace Sys2Proof.Machine

/-! ### The abort check -/

/-- The first abort of an operation, as R256 records it. -/
theorem raiseAbort_first {s : State} (clear : s.failReason = .none) :
    raiseAbort s = { s with
      failReason := .aborted, failPass := s.pass, failStep := none, failPage := s.pageIdx, ctl := .closing 0 } := by
  rw [raiseAbort, recordFailure_first _ _ _ _ clear]

/-- Settles O48: the engine's turn before a page that exists samples `ABORT` high. -/
theorem abortStopsBeforeThePage : Obligations.AbortStopsBeforeThePage := by
  intro s verify turn hc sess pass clear high left
  obtain ⟨env, spent, -⟩ := engineTurn_exists_eq s
  have here : engineTurn s = { s with env := env, ctl := .startPage verify } := by rw [spent, ← hc]
  have page : nextChunk s.src ≠ [] := by rw [ne_eq, nextChunk_eq_nil]; omega
  have stopped : step s = .next (raiseAbort (srcRead { s with env := env })) := by
    rw [step, turn]
    change engineStep (engineTurn s) = _
    rw [here]
    exact (engineStep_startPage verify (s := { s with env := env }) sess).trans
      ((if_neg page).trans (if_pos high))
  rw [raiseAbort_first (s := srcRead { s with env := env }) clear] at stopped
  exact ⟨_, stopped, rfl, pass, rfl, rfl, rfl, rfl, rfl, rfl, sess, rfl⟩

/-! ### Every operation ends -/

/-- In sequence and under the host contract the engine's turns never stop (R262). -/
theorem engineRun_answers (k : Nat) {s : State} (inv : SequenceInv s) (kept : contractKept s) :
    ∃ t, engineRun k s = .next t := by
  induction k generalizing s with
  | zero => exact ⟨s, rfl⟩
  | succ k ih =>
    obtain ⟨t, turn⟩ := engineStep_answers inv kept
    have next := (engineStep_engineMove turn).sequenceInv inv
    have kept' : contractKept t := fun m mem => kept m ((engineStep_historyGrows turn).env mem)
    rw [engineRun, turn]
    exact ih next kept'

/-- From the `Sync` step on, the engine's turns come to the outcome of the whole operation (R258). -/
theorem reaches_operation_entered {s : State} (rest : atRest s) :
    Reaches { entered (accept s) with ctl := .command .sync } (flowFlashAndVerify s).outcome := by
  obtain ⟨-, idle, sess, own⟩ := rest
  rw [flowFlashAndVerify_eq idle, always_outcome, flowOpenSession, enterSession_eq (s := accept s) sess own]
  refine reaches_handshake ⟨rfl, rfl, rfl⟩ (fun _ => reaches_write) fun t failed => ?_
  rw [writeFlow_failed failed]
  exact reaches_close t

/-- Settles O44: the operation is a number of the engine's turns, and none of them stops. -/
theorem everyOperationEnds : Obligations.EveryOperationEnds := by
  intro s rest kept
  obtain ⟨k, run⟩ := reaches_operation_entered rest
  have inv : SequenceInv { entered (accept s) with ctl := .command .sync } :=
    ⟨⟨⟨rfl, rfl, rfl, rfl⟩, rfl, rfl, rfl⟩, fun _ => rfl⟩
  obtain ⟨t, ends⟩ := engineRun_answers k inv kept
  exact ⟨t, run.symm.trans ends⟩

end Sys2Proof.Machine
end

section
/-! PROOF. The frame of the passes and of the whole operation (44_transfer_orchestrator.md R240, R247, R249, R258):
what a part of a pass keeps, however it ends. -/

namespace Sys2Proof.Machine

/-! ### Ends that keep a relation -/

/-- However the flow ends: where it goes on or failed, `R` holds, and a failure is on record; else the engine was
reset, or the model stops (R284, R321). -/
def Flow.Keeps (R : State → Prop) : Flow → Prop
  | .ok s => R s
  | .fail s => R s ∧ s.failReason ≠ .none
  | .reset s => ∃ u, s = engineReset u
  | .fault _ => True
  | .refused _ => True

namespace Flow.Keeps

variable {f : Flow} {k : State → Flow} {R R' : State → Prop}

theorem imp (kept : f.Keeps R) (weaker : ∀ s, R s → R' s) : f.Keeps R' := by
  cases f with
  | ok s => exact weaker s kept
  | fail s => exact ⟨weaker s kept.1, kept.2⟩
  | reset s | fault e | refused r => exact kept

theorem andThen (first : f.Keeps R) (rest : ∀ s, R s → (k s).Keeps R) : (f.andThen k).Keeps R := by
  cases f with
  | ok s => exact rest s first
  | fail s | reset s | fault e | refused r => exact first

/-- Where no reset is to come, none is the end. -/
theorem ends (kept : f.Keeps R) (quiet : f.Ends noReset noReset) :
    f.Ends (fun s => R s ∧ noReset s) fun s => R s ∧ noReset s := by
  cases f with
  | ok s => exact ⟨kept, quiet⟩
  | fail s => exact ⟨kept.1, quiet⟩
  | reset s | fault e | refused r => exact quiet

end Flow.Keeps

/-! ### The frame of a part of a pass -/

theorem passFrame_refl (s : State) : passFrame s s := ⟨rfl, rfl, rfl, rfl, rfl, rfl, rfl, fun _ => rfl, id⟩

theorem passFrame_trans {s t u : State} (first : passFrame s t) (second : passFrame t u) : passFrame s u := by
  obtain ⟨res, busy, own, rst, mode, cfg, out, image, viol⟩ := first
  obtain ⟨res', busy', own', rst', mode', cfg', out', image', viol'⟩ := second
  exact ⟨res'.trans res, busy'.trans busy, own'.trans own, rst'.trans rst, mode'.trans mode, cfg'.trans cfg,
    out'.trans out, fun on => (image' (busy.trans on)).trans (image on), fun set => viol' (viol set)⟩

/-- What a part of a write or verify pass keeps: the frame of every pass, `PASS`, and what only the other pass
writes (R240, R249); in the write pass every response is one byte long, so `RXBUF` from index 1 on too (R23). -/
structure PassKept (verify : Bool) (s t : State) : Prop where
  frame : passFrame s t
  pass : t.pass = s.pass
  writing : verify = false → t.vAtt = s.vAtt ∧ t.vOk = s.vOk ∧
    (s.rxbuf.length = 257 → t.rxbuf.length = 257 ∧ ∀ i, 1 ≤ i → t.rxbuf[i]? = s.rxbuf[i]?)
  reading : verify = true → t.pbuf = s.pbuf ∧ t.chunkLen = s.chunkLen ∧ t.wAtt = s.wAtt ∧ t.wOk = s.wOk

theorem PassKept.refl (verify : Bool) (s : State) : PassKept verify s s :=
  ⟨passFrame_refl s, rfl, fun _ => ⟨rfl, rfl, fun size => ⟨size, fun _ _ => rfl⟩⟩, fun _ => ⟨rfl, rfl, rfl, rfl⟩⟩

theorem PassKept.trans {verify : Bool} {s t u : State} (first : PassKept verify s t) (second : PassKept verify t u) :
    PassKept verify s u := by
  refine ⟨passFrame_trans first.frame second.frame, second.pass.trans first.pass, fun write => ?_, fun read => ?_⟩
  · obtain ⟨att, ok, buffer⟩ := first.writing write
    obtain ⟨att', ok', buffer'⟩ := second.writing write
    refine ⟨att'.trans att, ok'.trans ok, fun size => ?_⟩
    obtain ⟨size', same⟩ := buffer size
    obtain ⟨size'', same'⟩ := buffer' size'
    exact ⟨size'', fun i beyond => (same' i beyond).trans (same i beyond)⟩
  · obtain ⟨pbuf, chunk, att, ok⟩ := first.reading read
    obtain ⟨pbuf', chunk', att', ok'⟩ := second.reading read
    exact ⟨pbuf'.trans pbuf, chunk'.trans chunk, att'.trans att, ok'.trans ok⟩

/-- `SESS` is no part of the frame. -/
theorem PassKept.withSess {verify : Bool} {s t : State} (kept : PassKept verify s t) (sess : Sess) :
    PassKept verify s { t with sess := sess } :=
  ⟨kept.frame, kept.pass, kept.writing, kept.reading⟩

theorem Underway.passKept {verify : Bool} {n : Nat} {st : StepId} {s w : State} (underway : Underway n st s w)
    (short : verify = false → n ≤ 1) : PassKept verify s w := by
  cases underway with
  | intro _ _ _ _ _ _ _ _ _ _ same sticky buffer =>
    refine ⟨⟨rfl, rfl, rfl, rfl, rfl, rfl, rfl, fun busy => congrArg Source.bytes (same busy), sticky⟩, rfl,
      fun write => ⟨rfl, rfl, fun size => ?_⟩, fun _ => ⟨rfl, rfl, rfl, rfl⟩⟩
    obtain ⟨size', kept⟩ := buffer size
    exact ⟨size', fun i beyond => kept i ((short write).trans beyond)⟩

theorem raiseFail_passKept (verify : Bool) (reason : FailReason) (st : StepId) (s : State) :
    PassKept verify s (raiseFail reason st s) := by
  constructor <;> simp [passFrame]

theorem raiseAbort_passKept (verify : Bool) (s : State) : PassKept verify s (raiseAbort s) := by
  constructor <;> simp [passFrame]

theorem srcRead_passKept (verify : Bool) (s : State) : PassKept verify s (srcRead s) := by
  constructor <;> simp [passFrame]

/-- Only the write pass fetches a page into `PBUF` (R243, R249). -/
theorem beginPage_passKept (verify : Bool) (s : State) : PassKept verify s (beginPage verify s) := by
  have read := srcRead_passKept verify s
  cases verify with
  | true => exact ⟨read.frame, read.pass, nofun, read.reading⟩
  | false => exact ⟨read.frame, read.pass, read.writing, nofun⟩

theorem finishPage_passKept (verify : Bool) (s : State) : PassKept verify s (finishPage verify s) := by
  have same := PassKept.refl verify s
  cases verify with
  | true => exact ⟨same.frame, same.pass, nofun, same.reading⟩
  | false => exact ⟨same.frame, same.pass, same.writing, nofun⟩

/-! ### The frame of a pass -/

theorem stepFlow_keeps {verify : Bool} {st : StepId} (short : verify = false → ackLen st ≤ 1) (s : State) :
    (stepFlow st s).Keeps (PassKept verify s) := by
  have ended := stepFlow_commandEnd st s
  generalize stepFlow st s = f at ended
  cases ended with
  | acknowledged underway => exact underway.passKept short
  | @failed w reason named underway =>
    exact ⟨(underway.passKept short).trans (raiseFail_passKept verify reason st w),
      recordFailure_recorded _ _ _ _ named⟩
  | reset _ _ => exact ⟨_, rfl⟩
  | refused r => trivial

theorem stepsFlow_keeps {verify : Bool} {steps : List StepId}
    (short : verify = false → ∀ st ∈ steps, ackLen st ≤ 1) (s : State) :
    (stepsFlow steps s).Keeps (PassKept verify s) := by
  induction steps generalizing s with
  | nil => exact .refl verify s
  | cons st later ih =>
    have first := stepFlow_keeps (st := st) (fun write => short write st List.mem_cons_self) s
    refine first.andThen fun t kept => ?_
    exact (ih (fun write st mem => short write st (List.mem_cons_of_mem _ mem)) _).imp fun _ =>
      (kept.withSess (sessAfter st t.sess)).trans

/-- The three steps of a page (R216, R226). -/
def pageSteps (verify : Bool) : List StepId :=
  if verify then [.readSetup, .readAddress, .readLength] else [.writeSetup, .writeAddress, .writePayload]

theorem flowPage_eq (verify : Bool) (s : State) : flowPage verify s = stepsFlow (pageSteps verify) s := by
  cases verify with
  | true => exact flowReadPage_eq s
  | false => exact flowWritePage_eq s

theorem flowPage_keeps (verify : Bool) (s : State) : (flowPage verify s).Keeps (PassKept verify s) := by
  rw [flowPage_eq]
  refine stepsFlow_keeps (fun write => ?_) s
  rw [write]
  decide

theorem pageLoop_keeps (verify : Bool) (bound : Nat) (s : State) :
    (pageLoop verify bound s).Keeps (PassKept verify s) := by
  induction bound generalizing s with
  | zero => exact .refl verify s
  | succ bound ih =>
    unfold pageLoop
    by_cases empty : nextChunk s.src = []
    · rw [startPage_exhausted empty]
      exact srcRead_passKept verify s
    by_cases high : s.abort = true
    · rw [startPage_aborted empty high]
      exact ⟨(srcRead_passKept verify s).trans (raiseAbort_passKept verify _), raiseAbort_recorded _⟩
    rw [startPage_left empty (by simpa using high)]
    have begun := beginPage_passKept verify s
    refine ((flowPage_keeps verify (beginPage verify s)).imp fun _ => begun.trans).andThen fun t kept => ?_
    exact (ih _).imp fun _ => (kept.trans (finishPage_passKept verify t)).trans

/-- A pass writes `PASS` at its start and keeps the rest of its frame from there on (R241, R248). -/
theorem flowPass_keeps (verify : Bool) (s : State) :
    (flowPass verify s).Keeps (PassKept verify { s with pass := loopPass verify }) := by
  unfold flowPass
  split
  · have started : PassKept verify { s with pass := loopPass verify } (startPass verify s) := by
      have same := PassKept.refl verify { s with pass := loopPass verify }
      exact ⟨same.frame, same.pass, same.writing, same.reading⟩
    exact (pageLoop_keeps verify _ _).imp fun _ => started.trans
  · trivial

theorem passKept_of_outcome {verify : Bool} {s t : State} (quiet : noReset s)
    (h : (flowPass verify s).outcome = .next t) : PassKept verify { s with pass := loopPass verify } t := by
  obtain ⟨kept, -⟩ | ⟨kept, -⟩ := ((flowPass_keeps verify s).ends (flowPass_quiet verify quiet)).of_outcome h <;>
    exact kept

/-! ### The frame of an operation -/

/-- A session that cannot be entered is not opened (R172, R178). -/
theorem flowOpenSession_cases (s : State) :
    flowOpenSession s = stepsFlow openSteps (entered s) ∨ flowOpenSession s = .fault .noTransition := by
  by_cases idle : s.sess = .idle ∧ s.own = false
  · obtain ⟨sess, own⟩ := idle
    exact .inl (flowOpenSession_eq sess own)
  · have stopped : enterSession s = .fault .noTransition := if_neg idle
    rw [flowOpenSession, stopped]
    exact .inr rfl

/-- The frame of the passes, with no reset to come. -/
def quietFrame (s t : State) : Prop := passFrame s t ∧ noReset t

theorem stepsFlow_quietFrame (steps : List StepId) {s : State} (quiet : noReset s) :
    (stepsFlow steps s).Ends (quietFrame s) (quietFrame s) :=
  ((stepsFlow_keeps (verify := true) nofun s).imp fun _ => PassKept.frame).ends (stepsFlow_quiet steps quiet)

theorem flowPass_quietFrame (verify : Bool) {s t : State} (before : quietFrame s t) :
    (flowPass verify t).Ends (quietFrame s) (quietFrame s) :=
  ((flowPass_keeps verify t).imp fun _ kept => passFrame_trans before.1 kept.frame).ends
    (flowPass_quiet verify before.2)

/-- What the operation that was accepted in `s` never writes (R258). -/
def operationFrame (s t : State) : Prop :=
  t.src.bytes = s.src.bytes ∧ t.cfg = s.cfg ∧ t.unitOut = s.unitOut ∧
    (s.contractViol = true → t.contractViol = true)

/-- The image is HOST's to change only before the operation is accepted and after it is over (R327). -/
theorem closeFlow_operationFrame {s t : State} (kept : quietFrame (entered (accept s)) t) :
    (closeFlow t).Ends (operationFrame s) (operationFrame s) := by
  obtain ⟨⟨-, -, -, -, -, cfg, out, image, viol⟩, -⟩ := kept
  by_cases own : t.own = true
  · rw [closeFlow, leaveSession_eq own]
    exact ⟨image rfl, cfg, out, viol⟩
  · have stopped : leaveSession t = .fault .noTransition := if_neg own
    rw [closeFlow, stopped]
    trivial

theorem verifyFlow_operationFrame {s t : State} (kept : quietFrame (entered (accept s)) t) :
    (verifyFlow t).Ends (operationFrame s) (operationFrame s) := by
  refine Flow.Ends.always (P := quietFrame (entered (accept s))) ?_ fun _ => closeFlow_operationFrame
  split
  · exact flowPass_quietFrame true kept
  · exact kept

theorem writeFlow_operationFrame {s t : State} (kept : quietFrame (entered (accept s)) t) :
    (writeFlow t).Ends (operationFrame s) (operationFrame s) := by
  refine Flow.Ends.always (P := quietFrame (entered (accept s))) ?_ fun _ => verifyFlow_operationFrame
  split
  · exact flowPass_quietFrame false kept
  · exact kept

theorem flowFlashAndVerify_operationFrame {s : State} (idle : s.busy = false) (quiet : noReset s) :
    (flowFlashAndVerify s).Ends (operationFrame s) (operationFrame s) := by
  rw [flowFlashAndVerify_eq idle]
  obtain opened | stopped := flowOpenSession_cases (accept s)
  · rw [opened]
    exact (stepsFlow_quietFrame openSteps (s := entered (accept s)) quiet).always fun _ => writeFlow_operationFrame
  · rw [stopped]
    trivial

/-- Settles O39: the frame of each pass, and that of the operation through its close. -/
theorem passesAndOperationsKeepAllOtherState : Obligations.PassesAndOperationsKeepAllOtherState := by
  intro s t quiet
  refine ⟨fun h => ?_, fun h => ?_, fun h idle => ?_⟩
  · have kept : PassKept false { s with pass := .write } t := passKept_of_outcome quiet h
    obtain ⟨att, ok, buffer⟩ := kept.writing rfl
    exact ⟨kept.frame, kept.pass, att, ok, fun size => (buffer size).2⟩
  · have kept : PassKept true { s with pass := .verify } t := passKept_of_outcome quiet h
    exact ⟨kept.frame, kept.pass, kept.reading rfl⟩
  · obtain kept | kept := (flowFlashAndVerify_operationFrame idle quiet).of_outcome h <;> exact kept

end Sys2Proof.Machine
end

section
/-! PROOF. The totals of a successful operation (44_transfer_orchestrator.md R261): what each part of an operation that
goes on adds to the bytes, exchanges and events, and from the parts the whole. -/

namespace Sys2Proof.Machine

/-! ### Totals -/

/-- What a part of a run from `s` to `t` adds to the totals of R261: `nb` bytes sent, `nc` consumed, `nx` exchanges,
the line events `ls` and the source events `ss`. -/
structure Tally (nb nc nx : Nat) (ls ss : List Event) (s t : State) : Prop where
  bytes : t.tx.length = s.tx.length + nb
  consumed : consumedBytes t.trace = consumedBytes s.trace + nc
  exchanges : exchangeCount t.trace = exchangeCount s.trace + nx
  lines : lineEvents t.trace = lineEvents s.trace ++ ls
  sources : sourceEvents t.trace = sourceEvents s.trace ++ ss

namespace Tally

/-- A part that sends `sent` and emits `events`. -/
theorem of_events {s t : State} (sent : List Byte) (events : List Event) (tx : t.tx = s.tx ++ sent)
    (trace : t.trace = s.trace ++ events) :
    Tally sent.length (consumedBytes events) (exchangeCount events) (lineEvents events) (sourceEvents events) s t := by
  constructor <;>
    simp [tx, trace, consumedBytes, exchangeCount, lineEvents, sourceEvents, List.countP_append, List.filter_append]

/-- A part that sends nothing and emits `events`. -/
theorem of_unsent {s t : State} (events : List Event) (tx : t.tx = s.tx) (trace : t.trace = s.trace ++ events) :
    Tally 0 (consumedBytes events) (exchangeCount events) (lineEvents events) (sourceEvents events) s t :=
  of_events [] events (by rw [tx, List.append_nil]) trace

/-- A part that sends and emits nothing. -/
theorem of_silent {s t : State} (tx : t.tx = s.tx) (trace : t.trace = s.trace) : Tally 0 0 0 [] [] s t :=
  of_unsent [] tx (by rw [trace, List.append_nil])

theorem trans {nb nc nx nb' nc' nx' : Nat} {ls ss ls' ss' : List Event} {s t u : State}
    (first : Tally nb nc nx ls ss s t) (second : Tally nb' nc' nx' ls' ss' t u) :
    Tally (nb + nb') (nc + nc') (nx + nx') (ls ++ ls') (ss ++ ss') s u := by
  constructor
  · rw [second.bytes, first.bytes, Nat.add_assoc]
  · rw [second.consumed, first.consumed, Nat.add_assoc]
  · rw [second.exchanges, first.exchanges, Nat.add_assoc]
  · rw [second.lines, first.lines, List.append_assoc]
  · rw [second.sources, first.sources, List.append_assoc]

end Tally

/-! ### Command steps -/

theorem andThen_eq_ok {f : Flow} {k : State → Flow} {t : State} :
    f.andThen k = .ok t ↔ ∃ u, f = .ok u ∧ k u = .ok t := by
  cases f <;> simp [Flow.andThen]

/-- Only the engine emits events (R12). -/
theorem OthersMoved.trace {s t : State} (moved : OthersMoved s t) : t.trace = s.trace := by rw [moved.same]

/-- An acknowledged exchange sends its frame and consumes its response (R153). -/
theorem exchange_tally {frame : List Byte} {n : Nat} {st : StepId} {s t : State}
    (h : exchange frame n st s = .ok t) : Tally frame.length n 1 [] [] s t := by
  have spec := exchange_spec frame n st s
  simp only [h] at spec
  obtain ⟨v, moved, queued, -, rfl⟩ := spec
  have trace : v.trace = s.trace ++ [.tx frame] := moved.trace
  have response : (v.rxq.take n).length = n := List.length_take_of_le queued
  have consumed : consumedBytes [.tx frame, .rx (v.rxq.take n)] = n := by simp [consumedBytes, response]
  have tally : Tally _ _ _ _ _ s
      (emit (.rx (v.rxq.take n)) { v with
        rxq := v.rxq.drop n, rxbuf := fillRxbuf (v.rxq.take n) v.rxbuf, rxLen := BitVec.ofNat 9 n }) :=
    .of_events frame [.tx frame, .rx (v.rxq.take n)] moved.tx (by simp [trace])
  rw [consumed] at tally
  exact tally

/-- An acknowledged step keeps the frame of every step, sends its own frame and consumes its response. -/
theorem stepFlow_tally {st : StepId} {s t : State} (h : stepFlow st s = .ok t) :
    stepFrame s t ∧ Tally (stepBytes st s).length (ackLen st) 1 [] [] s t := by
  have ended := stepFlow_commandEnd st s
  have sess : s.sess = stepSession st := sess_of_stepFlow (by rw [h]; rfl)
  rw [h] at ended
  cases ended with
  | acknowledged underway =>
    refine ⟨underway.stepFrame, ?_⟩
    obtain ⟨frame, sent, flow⟩ | ⟨-, flow⟩ := stepFlow_cases st s
    · rw [flow, commandStep_inSession frame st s sess] at h
      rw [stepBytes, sent]
      exact exchange_tally h
    · rw [flow, if_pos sess] at h
      cases h

theorem stepsFlow_tally {steps : List StepId} {s t : State} (h : stepsFlow steps s = .ok t) :
    stepFrame s t ∧
      Tally (steps.flatMap fun st => stepBytes st s).length (steps.map ackLen).sum steps.length [] [] s t := by
  induction steps generalizing s with
  | nil =>
    cases h
    exact ⟨stepFrame_refl _, .of_silent rfl rfl⟩
  | cons st later ih =>
    obtain ⟨u, first, rest⟩ := andThen_eq_ok.mp h
    obtain ⟨frame, tally⟩ := stepFlow_tally first
    obtain ⟨frame', tally'⟩ := ih rest
    have next : stepFrame s { u with sess := sessAfter st u.sess } := frame
    simp only [stepBytes_eq next] at tally'
    have whole := tally.trans (u := t) ⟨tally'.bytes, tally'.consumed, tally'.exchanges, tally'.lines, tally'.sources⟩
    refine ⟨stepFrame_trans next frame', ?_⟩
    rw [List.flatMap_cons, List.length_append, List.map_cons, List.sum_cons, List.length_cons, Nat.add_comm _ 1]
    exact whole

/-! ### Pages -/

/-- The bytes one page of a pass sends (R216, R226). -/
def pageSends (verify : Bool) : Nat := if verify then 9 else 265

/-- The bytes one page of a pass consumes (R216, R226). -/
def pageConsumes (verify : Bool) : Nat := if verify then 259 else 3

/-- A page of the read pass sends nine bytes, one of the write pass 265 from a full page buffer (R216, R226). -/
theorem length_pageSteps_bytes {verify : Bool} {s : State} (size : verify = false → s.pbuf.length = 256) :
    ((pageSteps verify).flatMap fun st => stepBytes st s).length = pageSends verify := by
  cases verify with
  | true => rfl
  | false =>
    have payload : stepBytes .writePayload s = 0xFF :: s.pbuf ++ [xorAll (0xFF :: s.pbuf)] :=
      congrArg (Option.getD · []) (buildDataBlockFrame_page s.pbuf (size rfl))
    have setup : (stepBytes .writeSetup s).length = 2 := rfl
    have address : (stepBytes .writeAddress s).length = 5 := rfl
    simp [pageSteps, pageSends, payload, setup, address, size]

theorem flowPage_tally {verify : Bool} {s t : State} (size : verify = false → s.pbuf.length = 256)
    (h : flowPage verify s = .ok t) :
    stepFrame s t ∧ Tally (pageSends verify) (pageConsumes verify) 3 [] [] s t := by
  rw [flowPage_eq] at h
  have done := stepsFlow_tally h
  rw [length_pageSteps_bytes size] at done
  cases verify <;> exact done

theorem beginPage_tally (verify : Bool) (s : State) :
    Tally 0 0 0 [] [.srcRead (nextChunk s.src)] s (beginPage verify s) := by
  cases verify <;> exact .of_unsent [.srcRead (nextChunk s.src)] rfl rfl

theorem finishPage_tally (verify : Bool) (s : State) : Tally 0 0 0 [] [] s (finishPage verify s) := by
  cases verify with
  | true => exact .of_unsent [.pageOut _ _ _] rfl rfl
  | false => exact .of_silent rfl rfl

theorem beginPage_pbuf_length (s : State) : (beginPage false s).pbuf.length = 256 := by
  refine loadPage_length _ (srcRead s) ?_
  rw [nextChunk_length]
  omega

/-! ### Passes -/

/-- The `SrcRead`s of the first `p` pages of an image (R62). -/
def pageReads (image : List Byte) (p : Nat) : List Event :=
  (List.range p).map fun q => .srcRead ((image.drop (256 * q)).take 256)

/-- `p` pages were attempted and succeeded in a pass from `s` to `t` (R32, R244, R250). -/
def pagesCounted (verify : Bool) (p : Nat) (s t : State) : Prop :=
  if verify then t.vAtt = s.vAtt + BitVec.ofNat 32 p ∧ t.vOk = s.vOk + BitVec.ofNat 32 p
  else t.wAtt = s.wAtt + BitVec.ofNat 32 p ∧ t.wOk = s.wOk + BitVec.ofNat 32 p

/-- From the pass start `s` to `t` the first `p` pages of the image were done, and page `p` is next if there is one. -/
structure PagesDone (verify : Bool) (p : Nat) (s t : State) : Prop where
  most : p ≤ pageCount s.src.bytes
  src : t.src = ⟨s.src.bytes, min (256 * p) s.src.bytes.length⟩
  kept : PassKept verify s t
  counted : pagesCounted verify p s t
  tally : Tally (pageSends verify * p) (pageConsumes verify * p) (3 * p) [] (pageReads s.src.bytes p) s t

/-- One page more: begun, its three steps acknowledged, and finished (R244, R250). -/
theorem PagesDone.page {verify : Bool} {p : Nat} {s t u : State} (done : PagesDone verify p s t)
    (busy : s.busy = true) (left : nextChunk t.src ≠ []) (acked : flowPage verify (beginPage verify t) = .ok u) :
    PagesDone verify (p + 1) s (finishPage verify u) := by
  obtain ⟨most, src, kept, counted, tally⟩ := done
  have present : 256 * p < s.src.bytes.length := by
    rw [ne_eq, nextChunk_eq_nil, src] at left
    simp only at left
    omega
  have chunk : nextChunk t.src = (s.src.bytes.drop (256 * p)).take 256 := by
    rw [nextChunk, src, Nat.min_eq_left present.le]
  obtain ⟨frame, paged⟩ := flowPage_tally (fun write => by rw [write]; exact beginPage_pbuf_length t) acked
  have stepsKept : PassKept verify (beginPage verify t) u := by
    have keeps := flowPage_keeps verify (beginPage verify t)
    rwa [acked] at keeps
  have begun := kept.trans (beginPage_passKept verify t)
  obtain ⟨-, -, -, -, -, wAtt, wOk, vAtt, vOk, -, -, -, -, -, -, -, source, -⟩ := frame
  have running : (beginPage verify t).busy = true := by
    obtain ⟨-, same, -⟩ := begun.frame
    exact same.trans busy
  refine ⟨?_, ?_, (begun.trans stepsKept).trans (finishPage_passKept verify u), ?_, ?_⟩
  · unfold pageCount
    omega
  · have read := nextChunk_length t.src
    rw [src] at read
    rw [finishPage_src, source running, beginPage_src, srcRead_src]
    simp only [src, read, Source.mk.injEq, true_and]
    omega
  · cases verify with
    | true =>
      obtain ⟨att, ok⟩ := counted
      exact ⟨(vAtt.trans (congrArg (· + 1) att)).trans (add_ofNat_succ _ p),
        (congrArg (· + 1) (vOk.trans ok)).trans (add_ofNat_succ _ p)⟩
    | false =>
      obtain ⟨att, ok⟩ := counted
      exact ⟨(wAtt.trans (congrArg (· + 1) att)).trans (add_ofNat_succ _ p),
        (congrArg (· + 1) (wOk.trans ok)).trans (add_ofNat_succ _ p)⟩
  · have whole := tally.trans ((beginPage_tally verify t).trans (paged.trans (finishPage_tally verify u)))
    have reads : pageReads s.src.bytes (p + 1) = pageReads s.src.bytes p ++ [.srcRead (nextChunk t.src)] := by
      simp [pageReads, List.range_succ, chunk]
    rw [reads, Nat.mul_succ, Nat.mul_succ, Nat.mul_succ]
    simpa using whole

/-- A page loop that goes on has done every page of the image and read to its end (R242, R249). -/
theorem pageLoop_done {verify : Bool} {s : State} (busy : s.busy = true) (bound : Nat) {p : Nat} {t u : State}
    (done : PagesDone verify p s t) (enough : pageCount s.src.bytes < p + bound)
    (h : pageLoop verify bound t = .ok u) :
    ∃ v, PagesDone verify (pageCount s.src.bytes) s v ∧ nextChunk v.src = [] ∧ u = srcRead v := by
  induction bound generalizing p t with
  | zero => exact absurd done.most (Nat.not_le.mpr enough)
  | succ bound ih =>
    unfold pageLoop at h
    by_cases empty : nextChunk t.src = []
    · rw [startPage_exhausted empty] at h
      cases h
      have all : p = pageCount s.src.bytes := by
        have most := done.most
        have read := empty
        rw [nextChunk_eq_nil, done.src] at read
        simp only [pageCount] at most read ⊢
        omega
      exact ⟨t, all ▸ done, empty, rfl⟩
    by_cases high : t.abort = true
    · rw [startPage_aborted empty high] at h
      cases h
    rw [startPage_left empty (by simpa using high)] at h
    obtain ⟨v, acked, rest⟩ := andThen_eq_ok.mp h
    exact ih (done.page busy empty acked) (by omega) rest

/-- The totals of a completed pass (R261). -/
theorem flowPass_tally {verify : Bool} {s t : State} (busy : s.busy = true) (h : flowPass verify s = .ok t) :
    PassKept verify { s with pass := loopPass verify } t ∧ pagesCounted verify (pageCount s.src.bytes) s t ∧
      Tally (pageSends verify * pageCount s.src.bytes) (pageConsumes verify * pageCount s.src.bytes)
        (3 * pageCount s.src.bytes) [] (passReads s.src.bytes) s t := by
  have keeps := flowPass_keeps verify s
  rw [h] at keeps
  refine ⟨keeps, ?_⟩
  unfold flowPass at h
  split at h
  · have begun : PagesDone verify 0 (startPass verify s) (startPass verify s) := by
      refine ⟨Nat.zero_le _, congrArg (Source.mk _) (Nat.zero_min _).symm, .refl verify _, ?_, ?_⟩
      · cases verify <;> exact ⟨(BitVec.add_zero _).symm, (BitVec.add_zero _).symm⟩
      · rw [Nat.mul_zero, Nat.mul_zero]
        exact .of_silent rfl rfl
    have enough : pageCount s.src.bytes < 0 + srcReadBound s := by
      have := pageCount_le_length s.src.bytes
      unfold srcReadBound
      omega
    obtain ⟨v, done, empty, rfl⟩ := pageLoop_done (s := startPass verify s) busy _ begun enough h
    have started : Tally 0 0 0 [] [.srcRewind] s (startPass verify s) := .of_unsent [.srcRewind] rfl rfl
    have ended : Tally 0 0 0 [] [.srcRead []] v (srcRead v) :=
      .of_unsent [.srcRead []] rfl (by rw [srcRead_trace, empty])
    have whole := (started.trans done.tally).trans ended
    simp only [Nat.zero_add, Nat.add_zero] at whole
    have counted := done.counted
    refine ⟨?_, whole⟩
    cases verify <;> exact counted
  · cases h

/-! ### The operation -/

/-- The close sequence and the end of the operation answer one state (R182, R258). -/
theorem closeFlow_eq_next {s t : State} (h : (closeFlow s).outcome = .next t) : t = finish (released s) := by
  by_cases own : s.own = true
  · rw [closeFlow, leaveSession_eq own] at h
    cases h
    rfl
  · have stopped : leaveSession s = .fault .noTransition := if_neg own
    rw [closeFlow, stopped] at h
    cases h

/-- After a failure the operation is closed as a failure (R258, R260). -/
theorem closeFlow_failed {s t : State} (failed : s.failReason ≠ .none) (h : (closeFlow s).outcome = .next t) :
    t.resOk = false := by
  rw [closeFlow_eq_next h]
  exact decide_eq_false failed

/-- A part of an operation that comes to success has gone on with no failure on record, if the rest makes a failure of
every failure on record (R258). -/
theorem always_succeeds {f : Flow} {k : State → Flow} {R : State → Prop} {t : State} (keeps : f.Keeps R)
    (closes : ∀ u v, u.failReason ≠ .none → (k u).outcome = .next v → v.resOk = false)
    (h : (f.always k).outcome = .next t) (success : t.resOk = true) :
    ∃ u, f = .ok u ∧ u.failReason = .none ∧ (k u).outcome = .next t := by
  cases f with
  | ok u =>
    refine ⟨u, rfl, ?_, h⟩
    by_contra failed
    simp [closes u t failed h] at success
  | fail u =>
    obtain ⟨-, failed⟩ := keeps
    simp [closes u t failed h] at success
  | reset u =>
    obtain ⟨v, rfl⟩ := keeps
    cases h
    exact absurd success Bool.false_ne_true
  | fault e | refused r => cases h

theorem writeFlow_succeeds {s t : State} (h : (writeFlow s).outcome = .next t) (success : t.resOk = true)
    (clear : s.failReason = .none) :
    ∃ u, flowPass false s = .ok u ∧ u.failReason = .none ∧ (verifyFlow u).outcome = .next t := by
  rw [writeFlow, if_pos clear] at h
  refine always_succeeds (flowPass_keeps false s) (fun u v failed => ?_) h success
  rw [verifyFlow_failed failed]
  exact closeFlow_failed failed

theorem verifyFlow_succeeds {s t : State} (h : (verifyFlow s).outcome = .next t) (success : t.resOk = true)
    (clear : s.failReason = .none) :
    ∃ u, (if s.cfg.verifyEn then flowPass true s = .ok u else u = s) ∧ t = finish (released u) := by
  by_cases enabled : s.cfg.verifyEn = true
  · rw [verifyFlow, if_pos ⟨clear, enabled⟩] at h
    obtain ⟨u, passed, -, closed⟩ :=
      always_succeeds (flowPass_keeps true s) (fun _ _ => closeFlow_failed) h success
    exact ⟨u, by rwa [if_pos enabled], closeFlow_eq_next closed⟩
  · rw [verifyFlow, if_neg (by simp [enabled])] at h
    exact ⟨s, by rw [if_neg enabled], closeFlow_eq_next h⟩

/-- The session of an operation that comes to success was opened (R258). -/
theorem flowFlashAndVerify_succeeds {s t : State} (rest : atRest s) (h : (flowFlashAndVerify s).outcome = .next t)
    (success : t.resOk = true) :
    ∃ u, stepsFlow openSteps (entered (accept s)) = .ok u ∧ u.failReason = .none ∧
      (writeFlow u).outcome = .next t := by
  obtain ⟨-, idle, sess, own⟩ := rest
  rw [flowFlashAndVerify_eq idle, flowOpenSession_eq (s := accept s) sess own] at h
  refine always_succeeds (stepsFlow_keeps (verify := true) nofun _) (fun u v failed => ?_) h success
  rw [writeFlow_failed failed]
  exact closeFlow_failed failed

/-- The session that is entered and opened adds the four line events, the sixteen bytes and the eight exchanges (R172,
R176, R261). -/
theorem opened_tally {s t : State} (opened : stepsFlow openSteps (entered (accept s)) = .ok t) :
    stepFrame (entered (accept s)) t ∧
      Tally 16 30 8 [.gpio .mode true, .gpio .rst false, .delay .settle, .gpio .rst true] [] s t := by
  obtain ⟨frame, tally⟩ := stepsFlow_tally opened
  have entering : Tally 0 0 0 [.gpio .mode true, .gpio .rst false, .delay .settle, .gpio .rst true] [] s
      (entered (accept s)) :=
    .of_unsent [.gpio .mode true, .gpio .rst false, .delay .settle, .gpio .rst true] rfl rfl
  exact ⟨frame, entering.trans tally⟩

/-- The close adds its five line events (R182, R261). -/
theorem closed_tally (s : State) :
    Tally 0 0 0 [.gpio .rst false, .gpio .mode false, .gpio .rst false, .delay .settle, .gpio .rst true] [] s
      (finish (released s)) :=
  .of_unsent [.gpio .rst false, .gpio .mode false, .gpio .rst false, .delay .settle, .gpio .rst true, .done _] rfl
    (List.append_assoc ..)

/-- The verify pass of an operation adds its totals if there is one (R258, R261). -/
theorem verified_tally {s t : State} (busy : s.busy = true)
    (verified : if s.cfg.verifyEn then flowPass true s = .ok t else t = s) :
    t.wAtt = s.wAtt ∧ t.wOk = s.wOk ∧
      t.vAtt = s.vAtt + (if s.cfg.verifyEn then BitVec.ofNat 32 (pageCount s.src.bytes) else 0) ∧
      t.vOk = s.vOk + (if s.cfg.verifyEn then BitVec.ofNat 32 (pageCount s.src.bytes) else 0) ∧
      Tally (if s.cfg.verifyEn then 9 * pageCount s.src.bytes else 0)
        (if s.cfg.verifyEn then 259 * pageCount s.src.bytes else 0)
        (if s.cfg.verifyEn then 3 * pageCount s.src.bytes else 0) []
        (if s.cfg.verifyEn then passReads s.src.bytes else []) s t := by
  by_cases enabled : s.cfg.verifyEn = true
  · simp only [enabled, if_true] at verified ⊢
    obtain ⟨kept, ⟨att, ok⟩, tally⟩ := flowPass_tally busy verified
    obtain ⟨-, -, wAtt, wOk⟩ := kept.reading rfl
    exact ⟨wAtt, wOk, att, ok, tally⟩
  · simp only [enabled, if_false, Bool.false_eq_true] at verified ⊢
    subst verified
    exact ⟨rfl, rfl, (BitVec.add_zero _).symm, (BitVec.add_zero _).symm, .of_silent rfl rfl⟩

/-- Settles O45: the session, the passes and the close of an operation that comes to success add their totals. -/
theorem successfulOperationTotals : Obligations.SuccessfulOperationTotals := by
  intro s t rest _ h success
  change (flowFlashAndVerify s).outcome = _ at h
  obtain ⟨u1, opened, clear1, h1⟩ := flowFlashAndVerify_succeeds rest h success
  obtain ⟨u2, written, clear2, h2⟩ := writeFlow_succeeds h1 success clear1
  obtain ⟨u3, verified, rfl⟩ := verifyFlow_succeeds h2 success clear2
  obtain ⟨frame, tally1⟩ := opened_tally opened
  obtain ⟨-, -, -, -, -, wAtt1, wOk1, vAtt1, vOk1, -, busy1, -, -, -, cfg1, -, src1, -⟩ := frame
  have image1 : u1.src.bytes = s.src.bytes := congrArg Source.bytes (src1 rfl)
  obtain ⟨kept, ⟨wAtt2, wOk2⟩, tally2⟩ := flowPass_tally busy1 written
  obtain ⟨-, busy2, -, -, -, cfg2, -, image2, -⟩ := kept.frame
  obtain ⟨vAtt2, vOk2, -⟩ := kept.writing rfl
  have image : u2.src.bytes = s.src.bytes := (image2 busy1).trans image1
  have cfg : u2.cfg = s.cfg := cfg2.trans cfg1
  obtain ⟨wAtt3, wOk3, vAtt3, vOk3, tally3⟩ := verified_tally (busy2.trans busy1) verified
  simp only [image1, image, cfg] at wAtt2 wOk2 tally2 vAtt3 vOk3 tally3
  obtain ⟨bytes, consumed, exchanges, lines, sources⟩ :=
    ((tally1.trans tally2).trans tally3).trans (closed_tally u3)
  have clear (n : Word32) : 0 + n = n := BitVec.zero_add n
  refine ⟨?_, ?_, ?_, ?_, ?_, ?_, ?_, ?_, ?_⟩
  · rw [bytes, Nat.add_zero, ← Nat.add_assoc, ← Nat.add_assoc]
    rfl
  · rw [consumed, Nat.add_zero, ← Nat.add_assoc, ← Nat.add_assoc]
    rfl
  · rw [exchanges, Nat.add_zero, ← Nat.add_assoc, ← Nat.add_assoc]
  · simpa using lines
  · simpa using sources
  · exact wAtt3.trans (wAtt2.trans ((congrArg (· + _) wAtt1).trans (clear _)))
  · exact wOk3.trans (wOk2.trans ((congrArg (· + _) wOk1).trans (clear _)))
  · exact vAtt3.trans ((congrArg (· + _) (vAtt2.trans vAtt1)).trans (clear _))
  · exact vOk3.trans ((congrArg (· + _) (vOk2.trans vOk1)).trans (clear _))

end Sys2Proof.Machine
end

section
/-! PROOF. `flashAndVerify` with an acknowledgment queued for every step (44_transfer_orchestrator.md R258, R260): the
session is opened, each pass goes on to its end, and the close follows. -/

namespace Sys2Proof.Machine

/-! ### Queues of acknowledgments -/

/-- Only acknowledgments are queued, `n` at least. -/
def acksQueued (n : Nat) (s : State) : Prop := (∀ b ∈ s.rxq, b = s.cfg.wire.ack) ∧ n ≤ s.rxq.length

/-- What is left of a queue of acknowledgments when `n` bytes are consumed. -/
theorem acksQueued.drop {n m : Nat} {s t : State} (queued : acksQueued (n + m) s) (cfg : t.cfg = s.cfg)
    (rxq : t.rxq = s.rxq.drop n) : acksQueued m t := by
  obtain ⟨acks, enough⟩ := queued
  refine ⟨fun b mem => ?_, ?_⟩
  · rw [cfg]
    exact acks b (List.mem_of_mem_drop (rxq ▸ mem))
  · rw [rxq, List.length_drop]
    omega

/-- Acknowledgments answer the eight steps of a session (R176). -/
theorem acksQueued.answers_openSteps {s : State} (queued : acksQueued 30 s) :
    queueAnswers s.cfg.wire.ack openSteps s.rxq := by
  obtain ⟨acks, enough⟩ := queued
  refine queueAnswers_openSteps enough fun i mem => ?_
  have inside : i < s.rxq.length := by
    simp only [List.mem_cons, List.not_mem_nil, or_false] at mem
    omega
  rw [List.getElem?_eq_getElem inside, acks _ (List.getElem_mem inside)]

/-- The responses of `k` pages that come to `n` acknowledgments each. -/
theorem pageResponses_acks (w : Wire) (k n : Nat) :
    pageResponses w (List.replicate k (List.replicate n w.ack)) = List.replicate ((n + 3) * k) w.ack := by
  induction k with
  | zero => rfl
  | succ k ih =>
    have page : [w.ack, w.ack, w.ack] ++ List.replicate n w.ack = List.replicate (n + 3) w.ack := by
      rw [Nat.add_comm, List.replicate_add]
      rfl
    rw [pageResponses, List.replicate_succ, List.flatMap_cons, page]
    change _ ++ pageResponses w (List.replicate k (List.replicate n w.ack)) = _
    rw [ih, ← List.replicate_add, Nat.mul_succ, Nat.add_comm]

/-- Acknowledgments answer the pages of a verify pass: each comes to 256 of them (R226). -/
theorem acksQueued.answers_pages {k : Nat} {s : State} (queued : acksQueued (259 * k) s) :
    s.rxq = pageResponses s.cfg.wire (List.replicate k (List.replicate 256 s.cfg.wire.ack)) ++
      s.rxq.drop (259 * k) := by
  obtain ⟨acks, enough⟩ := queued
  have taken : s.rxq.take (259 * k) = List.replicate (259 * k) s.cfg.wire.ack :=
    List.eq_replicate_iff.mpr ⟨List.length_take_of_le enough, fun b mem => acks b (List.mem_of_mem_take mem)⟩
  rw [pageResponses_acks, ← taken, List.take_append_drop]

/-! ### The passes -/

/-- A write pass with its acknowledgments queued goes on to its end (R240 to R244). -/
theorem flowPass_writes {s : State} (sess : s.sess = .ready) (clear : s.failReason = .none) (low : s.abort = false)
    {later : Nat} (queued : acksQueued (3 * pageCount s.src.bytes + later) s) :
    ∃ t, flowPass false s = .ok t ∧ Written (pageCount s.src.bytes) (startPass false s) t ∧ acksQueued later t := by
  have ⟨acks, enough⟩ := queued
  have may : passMayStart false s = true := by simp [passMayStart, sess, clear]
  have begun : Written 0 (startPass false s) (startPass false s) :=
    ⟨⟨rfl, low, congrArg be32 (BitVec.add_zero _).symm, rfl, congrArg (Source.mk _) (Nat.zero_min _).symm⟩,
      (List.append_nil _).symm, rfl, (BitVec.add_zero _).symm, (BitVec.add_zero _).symm, rfl, rfl, rfl, rfl, rfl⟩
  have bounded : pageCount s.src.bytes < srcReadBound s := by
    have := pageCount_le_length s.src.bytes
    unfold srcReadBound
    omega
  rw [flowPass, if_pos may]
  obtain ⟨t, loop, written⟩ := writeLoop_writes (s := startPass false s) acks
    ((Nat.le_add_right _ _).trans enough) _ begun (Nat.zero_add _) bounded
  obtain ⟨-, -, cfg, -⟩ := written.kept
  exact ⟨t, loop, written, queued.drop cfg written.rxq⟩

/-- A verify pass with acknowledgments queued for all it consumes goes on to its end (R247 to R251). -/
theorem flowPass_verifies {s : State} (sess : s.sess = .transferring) (clear : s.failReason = .none)
    (enabled : s.cfg.verifyEn = true) (low : s.abort = false)
    (queued : acksQueued (259 * pageCount s.src.bytes) s) :
    ∃ t pages, flowPass true s = .ok t ∧ pages.length = pageCount s.src.bytes ∧
      Presented 0 pages (startPass true s) t := by
  have may : passMayStart true s = true := by simp [passMayStart, sess, clear, enabled]
  have begun : VerifyAt s.src.bytes 0 (startPass true s) :=
    ⟨rfl, low, congrArg be32 (BitVec.add_zero _).symm, rfl, congrArg _ (Nat.zero_min _).symm⟩
  have count : (List.replicate (pageCount s.src.bytes) (List.replicate 256 s.cfg.wire.ack)).length =
      pageCount s.src.bytes := List.length_replicate
  have bounded : (List.replicate (pageCount s.src.bytes) (List.replicate 256 s.cfg.wire.ack)).length <
      srcReadBound s := by
    have := pageCount_le_length s.src.bytes
    rw [count]
    unfold srcReadBound
    omega
  obtain ⟨t, loop, presented, -, -⟩ := verifyLoop_presents _ begun (by rw [Nat.zero_add, count]) bounded
    (fun d mem => by rw [List.eq_of_mem_replicate mem, List.length_replicate]) queued.answers_pages
  rw [flowPass, if_pos may]
  exact ⟨t, _, loop, count, presented⟩

/-! ### The operation -/

/-- An operation whose passes went on to `u` is closed as a success (R258, R260). -/
theorem closeFlow_succeeds {u : State} (own : u.own = true) (clear : u.failReason = .none) :
    ∃ t, (closeFlow u).outcome = .next t ∧ atRest t ∧ t.resOk = true ∧ t.failReason = .none ∧ t.tx = u.tx := by
  rw [closeFlow, leaveSession_eq own]
  exact ⟨_, rfl, ⟨rfl, rfl, rfl, rfl⟩, decide_eq_true clear, clear, rfl⟩

/-- The rest of an operation after its write pass, with the acknowledgments of the verify pass queued if there is
one (R258). -/
theorem verifyFlow_acknowledged {s : State} (own : s.own = true) (clear : s.failReason = .none)
    (sess : s.sess = .transferring) (low : s.abort = false)
    (queued : acksQueued (if s.cfg.verifyEn then 259 * pageCount s.src.bytes else 0) s) :
    ∃ t, (verifyFlow s).outcome = .next t ∧ atRest t ∧ t.resOk = true ∧ t.failReason = .none ∧
      t.tx = s.tx ++ if s.cfg.verifyEn then readPassBytes s.cfg.wire s.cfg.base s.src.bytes else [] := by
  by_cases enabled : s.cfg.verifyEn = true
  · rw [if_pos enabled] at queued ⊢
    obtain ⟨u, pages, passed, count, tx, -, -, -, fail, -⟩ := flowPass_verifies sess clear enabled low queued
    have keeps := flowPass_keeps true s
    rw [passed] at keeps
    obtain ⟨-, -, own', -⟩ := keeps.frame
    obtain ⟨t, closed, rest, success, none, same⟩ := closeFlow_succeeds (own'.trans own) (fail.trans clear)
    rw [verifyFlow, if_pos ⟨clear, enabled⟩, passed]
    refine ⟨t, closed, rest, success, none, same.trans ?_⟩
    rw [tx, count, ← List.range_eq_range']
    rfl
  · rw [verifyFlow, if_neg (by simp [enabled]), if_neg enabled, List.append_nil]
    exact closeFlow_succeeds own clear

/-- The rest of an operation whose session is open, with the acknowledgments of its passes queued (R258). -/
theorem writeFlow_acknowledged {s : State} (own : s.own = true) (clear : s.failReason = .none)
    (sess : s.sess = .ready) (low : s.abort = false)
    (queued : acksQueued (3 * pageCount s.src.bytes +
      if s.cfg.verifyEn then 259 * pageCount s.src.bytes else 0) s) :
    ∃ t, (writeFlow s).outcome = .next t ∧ atRest t ∧ t.resOk = true ∧ t.failReason = .none ∧
      t.tx = s.tx ++ writePassBytes s.cfg.wire s.cfg.base s.src.bytes ++
        if s.cfg.verifyEn then readPassBytes s.cfg.wire s.cfg.base s.src.bytes else [] := by
  obtain ⟨u, passed, written, left⟩ := flowPass_writes sess clear low queued
  obtain ⟨⟨sess', low', -, -, src⟩, tx, -, -, -, fail, -, cfg, -⟩ := written
  have keeps := flowPass_keeps false s
  rw [passed] at keeps
  obtain ⟨-, -, own', -⟩ := keeps.frame
  have cfg' : u.cfg = s.cfg := cfg
  have image : u.src.bytes = s.src.bytes := by rw [src]; rfl
  rw [← cfg', ← image] at left
  obtain ⟨t, closed, rest, success, none, sent⟩ :=
    verifyFlow_acknowledged (own'.trans own) (fail.trans clear) sess' low' left
  rw [writeFlow, if_pos clear, passed]
  refine ⟨t, closed, rest, success, none, sent.trans ?_⟩
  rw [tx, cfg', image]
  rfl

theorem afterSteps_inputs (steps : List StepId) (s : State) :
    (afterSteps steps s).cfg = s.cfg ∧ (afterSteps steps s).abort = s.abort := by
  induction steps generalizing s with
  | nil => exact ⟨rfl, rfl⟩
  | cons st later ih => exact ih _

/-- The session of an operation accepted in `s`, with acknowledgments queued, is open in `u` (R176, R258). -/
structure SessionOpened (s u : State) : Prop where
  own : u.own = true
  clear : u.failReason = .none
  sess : u.sess = .ready
  abort : u.abort = s.abort
  cfg : u.cfg = s.cfg
  src : u.src = s.src
  tx : u.tx = s.tx ++ openBytes s.cfg.wire
  rxq : u.rxq = s.rxq.drop 30

theorem flowOpenSession_acknowledged {s : State} (sess : s.sess = .idle) (own : s.own = false)
    (queued : acksQueued 30 s) : ∃ u, flowOpenSession (accept s) = .ok u ∧ SessionOpened s u := by
  have opened : flowOpenSession (accept s) = .ok (afterSteps openSteps (entered (accept s))) :=
    (flowOpenSession_eq (s := accept s) sess own).trans
      (stepsFlow_answered rfl (by decide) queued.answers_openSteps)
  obtain ⟨-, own', -, -, clear, -, -, src, -⟩ := afterSteps_keeps openSteps (entered (accept s))
  obtain ⟨cfg, abort⟩ := afterSteps_inputs openSteps (entered (accept s))
  exact ⟨_, opened, own', clear, rfl, abort, cfg, src, afterSteps_tx _ _, afterSteps_rxq _ _⟩

/-- Settles O42: every part goes on; the counts are those of every successful operation. -/
theorem flashAndVerifySucceeds : Obligations.FlashAndVerifySucceeds := by
  intro s rest low short acks enough
  have ⟨_, idle, sess, own⟩ := rest
  have queued : acksQueued (30 + (3 * pageCount s.src.bytes +
      if s.cfg.verifyEn then 259 * pageCount s.src.bytes else 0)) s :=
    ⟨acks, (Nat.add_assoc ..).symm.trans_le enough⟩
  obtain ⟨u, opened, session⟩ := flowOpenSession_acknowledged sess own ⟨acks, by omega⟩
  have left := queued.drop session.cfg session.rxq
  rw [← session.cfg, ← session.src] at left
  obtain ⟨t, run, idle', success, clear, tx⟩ :=
    writeFlow_acknowledged session.own session.clear session.sess (session.abort.trans low) left
  have operation : exec .flashAndVerify s = .next t := by
    change (flowFlashAndVerify s).outcome = _
    rw [flowFlashAndVerify_eq idle, opened]
    exact run
  obtain ⟨-, -, -, -, -, wAtt, wOk, vAtt, vOk⟩ := successfulOperationTotals s t rest short operation success
  rw [session.tx, session.cfg, session.src] at tx
  exact ⟨t, operation, idle', success, clear, wAtt, wOk, vAtt, vOk, tx⟩

end Sys2Proof.Machine
end

section
/-! PROOF. Failed steps (60_exceptions.md R281 to R285, 42_device_session.md R185): what `raise Fail` leaves of a step
issued in its place, and every step that times out or is rejected. -/

namespace Sys2Proof.Machine

/-! ### The failure of a step issued in its place -/

/-- A step that is not of the setup pass is of a page pass (R27). -/
theorem stepPass_page {st : StepId} (page : stepPass st ≠ .setup) : stepPass st = .write ∨ stepPass st = .verify := by
  cases st <;> simp_all [stepPass]

/-- The first failure of an operation, raised by a step in its pass and session state: the pass decides the page that
is recorded and the session state that is left (R284, R185). -/
theorem raiseFail_inPlace (reason : FailReason) {st : StepId} {s : State} (sess : s.sess = stepSession st)
    (pass : s.pass = stepPass st) (clear : s.failReason = .none) :
    raiseFail reason st s = { s with
      failReason := reason, failPass := stepPass st, failStep := some st
      failPage := if stepPass st = .setup then 0 else s.pageIdx
      sess := if stepPass st = .setup then .faulted else .transferring, ctl := .closing 0 } := by
  rw [raiseFail_first reason st s clear, failedPage, sess, pass]
  by_cases setup : stepPass st = .setup
  · simp [setup]
  · simp only [if_pos (stepPass_page setup), if_neg setup, stepSession_page setup]

/-- With a full page buffer every step has a frame, and in its session state it is that frame's exchange (R100,
R230). -/
theorem exec_issue_inSession {st : StepId} {s : State} (sess : s.sess = stepSession st) (size : s.pbuf.length = 256) :
    ∃ frame, encode s.cfg.wire (issue st s) = some frame ∧
      exec (issue st s) s = (exchange frame (ackLen st) st s).outcome := by
  obtain ⟨frame, sent, -⟩ := readStep_encode (w := s.cfg.wire) (issue_wf size) (issue_stepId st s)
  refine ⟨frame, sent, ?_⟩
  obtain ⟨frame', sent', flow⟩ | ⟨unsent, -⟩ := stepFlow_cases st s
  · obtain rfl : frame' = frame := Option.some.inj (sent'.symm.trans sent)
    rw [exec_issue, flow, commandStep_inSession frame' st s sess]
  · exact absurd (unsent.symm.trans sent) nofun

/-! ### The two failures of a wait and its response -/

/-- Settles O27: the wait ends before anything is read, so the failure is raised in the state the frame was sent in. -/
theorem anyStepThatTimesOutIsRecorded : Obligations.AnyStepThatTimesOutIsRecorded := by
  intro st s later sess pass clear size next missing
  obtain ⟨frame, sent, run⟩ := exec_issue_inSession sess size
  have raised := raiseFail_inPlace .timeout (s := send frame { s with step := some st, env := later }) sess pass clear
  rw [exchange_timesOut frame st next missing, raised] at run
  exact ⟨frame, _, sent, run, rfl, rfl, rfl, rfl, rfl, rfl, rfl, rfl, rfl, rfl, stepFrame_refl s⟩

/-- The first byte of a response that was consumed whole is `RXBUF[0]` (R152, R23). -/
theorem head?_exchanged_rxbuf (frame : List Byte) {n : Nat} (st : StepId) {s : State} (least : 1 ≤ n)
    (queued : n ≤ s.rxq.length) : (exchanged frame n st s).rxbuf.head? = s.rxq.head? := by
  obtain ⟨k, rfl⟩ := Nat.exists_eq_add_of_le' least
  cases queue : s.rxq with
  | nil => simp [queue] at queued
  | cons b rest => simp [exchanged, queue]

/-- Settles O28: the failure is raised in the state the exchange leaves with its response consumed. -/
theorem anyStepThatIsRejectedIsRecorded : Obligations.AnyStepThatIsRejectedIsRecorded := by
  intro st s sess pass clear size queued other
  obtain ⟨frame, sent, run⟩ := exec_issue_inSession sess size
  have raised := raiseFail_inPlace .protocolNack (s := exchanged frame (ackLen st) st s) sess pass clear
  have first := head?_exchanged_rxbuf frame st (ackLen_bounds st).1 queued
  rw [exchange_rejected frame (ackLen st) st s queued other, raised] at run
  exact ⟨frame, _, sent, run, rfl, rfl, first, rfl, rfl, rfl, rfl, rfl, rfl, stepFrame_refl s⟩

end Sys2Proof.Machine
end
